-- ==== Sys2Proof/Word.lean ====
section
/-!
DEFINITION. The widths the spec fixes (00_scope.md R6): bytes, register words, cursors, window offsets, the checksum.
-/

namespace Sys2Proof

/-- A link byte, or one byte of a buffer (R6: "A link byte is 8 bits"). -/
abbrev Byte := BitVec 8

/-- A host-visible register, and a Kalman word (R6: "Every host-visible register is 32 bits"). -/
abbrev Word := BitVec 32

/-- A cursor of the framer: `rx_index`, `rx_expected_length`, `tx_index`, `tx_expected_length` (R6: 9 bits). -/
abbrev Cursor := BitVec 9

/-- A byte offset in the register window (R6: "The host bus offset within the window is 12 bits"). -/
abbrev Offset := BitVec 12

/-- The additive checksum (R6: "The checksum is 16 bits"). -/
abbrev Sum16 := BitVec 16

end Sys2Proof
end

