-- ==== Sys2Proof/Config.lean ====
section
/-!
DEFINITION. What a build of the block fixes (00_scope.md R5), the OPEN parameter BASE (R70), and the free values: the
contents that power-on reset leaves unspecified (10_state.md R47).
-/

namespace Sys2Proof

/-- The build parameters of R5, all but BASE. A model takes each one as an argument of its configuration: State carries
one such record, no step changes it, and every meaning reads it (log 1). -/
structure Build where
  /-- `CAP`: capacity in bytes of the receive buffer, the transmit buffer and the snapshot. -/
  cap : Nat
  /-- `MARK`: the sentinel byte, sent twice at the start of every frame. -/
  mark : Byte
  /-- `FILL`: the byte the transmitter sends when it has no pending frame. -/
  fill : Byte
  /-- `F`: the number of fraction bits of the Kalman format. -/
  fracBits : Nat
  /-- `KF_Q`: the process-noise constant. -/
  kfQ : Word
  /-- `KF_R`: the measurement-noise constant. -/
  kfR : Word
  /-- `KF_P0`: the diagonal value of the initial covariance. -/
  kfP0 : Word
  deriving DecidableEq, Repr

namespace Build

/-- The defaults of R5, "the value this spec's hardware takes when nothing else is said". -/
def default : Build where
  cap := 64
  mark := 0xFF#8
  fill := 0x00#8
  fracBits := 16
  kfQ := 0x0000199A#32
  kfR := 0x00010000#32
  kfP0 := 0x00010000#32

/-- The legal builds of R5: 6 ≤ CAP ≤ 261, FILL ≠ MARK, 1 ≤ F ≤ 30. Every 32-bit word is legal for the three Kalman
constants (93_implementation_defined.md I19). Any other build is refused (I20, I21; log 10). -/
def legal (bd : Build) : Bool :=
  6 ≤ bd.cap && bd.cap ≤ 261 && bd.fill != bd.mark && 1 ≤ bd.fracBits && bd.fracBits ≤ 30

/-- `PMAX = CAP − 6` (R5): the largest payload the block can receive or send. -/
def pmax (bd : Build) : Nat := bd.cap - 6

end Build

/-- The four byte memories of the block. -/
inductive BufferId
  | rxBuffer
  | txBuffer
  | stage
  | snap
  deriving DecidableEq, Repr

namespace Config

/-- `BASE`: the host bus address of the register window, OPEN (R5, R70; 92 D31). It has no value here; no rule's effect
depends on it (log 2). -/
opaque base : Nat

/-- The host bus address of a window offset (R70: "at host address `BASE + offset`"). -/
def hostAddress (off : Offset) : Nat := base + off.toNat

/-- FREE VALUE: what byte `i` of a buffer holds after the `n`-th power-on reset and before anything writes it. R47 calls
it unspecified and 93_implementation_defined.md I3 to I7 give it the treatment "any value" (log 5). -/
opaque powerOnByte : (n : Nat) → BufferId → (i : Nat) → Byte

end Config

end Sys2Proof
end

