-- ==== Sys2Proof/Syntax.lean ====
section
/-!
DEFINITION. The nine operations of spec/opcode_table.json (30_encoding.md R105), one constructor a row: the six command
words written to CMD, the two bus accesses of the HOST agent, and the byte exchange of the LINK agent.
-/

namespace Sys2Proof

/-- One step of one agent (10_state.md R20). The command constructors keep the argument bytes A and B that the rules
ignore (R108), so that no bit of a command word is lost. -/
inductive Instr
  /-- NOP, OP 0x00 (R183); `a` and `b` are ignored. -/
  | nop (a b : Byte)
  /-- SEND, OP 0x01 (R184): A is the TYPE, B the LENGTH. -/
  | send (ty len : Byte)
  /-- CONSUME, OP 0x02 (R185); `a` and `b` are ignored. -/
  | consume (a b : Byte)
  /-- RESET_LINK, OP 0x03 (R186); `a` and `b` are ignored. -/
  | resetLink (a b : Byte)
  /-- KF_RESET, OP 0x10 (R217); `a` and `b` are ignored. -/
  | kfReset (a b : Byte)
  /-- KF_APPLY, OP 0x11 (R218); `a` and `b` are ignored. -/
  | kfApply (a b : Byte)
  /-- BUS_READ (R180): a 32-bit read at a byte offset. -/
  | busRead (off : Offset)
  /-- BUS_WRITE (R181): a 32-bit write at a byte offset. -/
  | busWrite (off : Offset) (v : Word)
  /-- LINK_BYTE (R151): one byte exchange, `b` received from the peer. -/
  | linkByte (b : Byte)
  deriving DecidableEq, Repr

end Sys2Proof
end

