-- ==== Sys2Proof/WellFormed.lean ====
section
/-!
DEFINITION. Well-formed instructions: each agent step has one instruction. A write of a legal command word to CMD is
that command, so a BUS_WRITE that carries one to offset 0x00C is the ill-formed spelling of it (log 9).
-/

namespace Sys2Proof

/-- The offset of CMD (20_memory.md R71). -/
def cmdOffset : Offset := 0x00C#12

/-- The opcodes of the map of R105. Every other value is unassigned (R107). -/
def assignedOpcodes : List Byte := [0x00#8, 0x01#8, 0x02#8, 0x03#8, 0x10#8, 0x11#8]

/-- A command word that is not illegal (R104, R106, R107): RSV is 0 and OP is assigned. -/
def legalCommandWord (v : Word) : Bool :=
  v.extractLsb' 24 8 == 0#8 && assignedOpcodes.contains (v.extractLsb' 0 8)

/-- Every instruction is well-formed but a BUS_WRITE at offset 0x00C of a legal command word, which is spelled as that
command. (The meaning of BUS_WRITE covers it all the same, by R182.) -/
def Instr.wellFormed : Instr → Bool
  | .nop _ _ => true
  | .send _ _ => true
  | .consume _ _ => true
  | .resetLink _ _ => true
  | .kfReset _ _ => true
  | .kfApply _ _ => true
  | .busRead _ => true
  | .busWrite off v => !(off == cmdOffset && legalCommandWord v)
  | .linkByte _ => true

end Sys2Proof
end

