-- ==== Sys2Proof/Decode.lean ====
section
/-!
DEFINITION. Decoding: from a step of an agent (a bus access or a byte exchange, 10_state.md R20) to an instruction, by
the command word's encoding (30_encoding.md R103 to R108); and the encoder back.
-/

namespace Sys2Proof

/-- One step of one agent as the block's pins carry it (R20): a bus read, a bus write, or a byte exchange. -/
inductive AgentStep
  /-- HOST: a read of the register at `off` (R180). -/
  | hostRead (off : Offset)
  /-- HOST: a write of `v` to the register at `off` (R181). -/
  | hostWrite (off : Offset) (v : Word)
  /-- LINK: a byte exchange in which the peer sends `b` (R103). -/
  | linkByte (b : Byte)
  deriving DecidableEq, Repr

/-- The six commands of the opcode map (R105). -/
inductive Opcode
  | nop
  | send
  | consume
  | resetLink
  | kfReset
  | kfApply
  deriving DecidableEq, Repr

/-- A decoded legal command word: its command and its arguments A and B (R104). -/
structure Command where
  op : Opcode
  a : Byte
  b : Byte
  deriving DecidableEq, Repr

/-- Why a command word is illegal. -/
inductive CommandReject
  /-- RSV ≠ 0x00 (R106), checked before the opcode (60_exceptions.md R256.3). -/
  | reservedBits
  /-- OP is not in the map of R105 (R107). -/
  | unassignedOpcode
  deriving DecidableEq, Repr

/-- Why a word of the opcode table's numbering is no agent step of the block. -/
inductive TableReject
  /-- Bits above the 12-bit offset are set in a bus access. -/
  | offsetTooWide
  /-- No row of the table has this many bits. -/
  | noSuchWidth
  deriving DecidableEq, Repr

/-! ## Command words (R104 to R108) -/

/-- OP, bits [7:0] (R104). -/
def cmdOp (v : Word) : Byte := v.extractLsb' 0 8

/-- Argument A, bits [15:8] (R104). -/
def cmdA (v : Word) : Byte := v.extractLsb' 8 8

/-- Argument B, bits [23:16] (R104). -/
def cmdB (v : Word) : Byte := v.extractLsb' 16 8

/-- RSV, bits [31:24] (R104). -/
def cmdRsv (v : Word) : Byte := v.extractLsb' 24 8

/-- The opcode map of R105. -/
def Opcode.code : Opcode → Byte
  | .nop => 0x00#8
  | .send => 0x01#8
  | .consume => 0x02#8
  | .resetLink => 0x03#8
  | .kfReset => 0x10#8
  | .kfApply => 0x11#8

/-- The opcode map read the other way; every value outside it is unassigned (R107). -/
def opcodeOf (op : Byte) : Option Opcode :=
  if op = 0x00#8 then some .nop
  else if op = 0x01#8 then some .send
  else if op = 0x02#8 then some .consume
  else if op = 0x03#8 then some .resetLink
  else if op = 0x10#8 then some .kfReset
  else if op = 0x11#8 then some .kfApply
  else none

/-- Decode a command word (R104 to R108): RSV first, then OP; A and B are plain bytes. -/
def decodeCommand (v : Word) : Except CommandReject Command :=
  if cmdRsv v = 0x00#8 then
    match opcodeOf (cmdOp v) with
    | some op => .ok { op := op, a := cmdA v, b := cmdB v }
    | none => .error .unassignedOpcode
  else .error .reservedBits

/-- The instruction a command is. -/
def Command.toInstr (c : Command) : Instr :=
  match c.op with
  | .nop => .nop c.a c.b
  | .send => .send c.a c.b
  | .consume => .consume c.a c.b
  | .resetLink => .resetLink c.a c.b
  | .kfReset => .kfReset c.a c.b
  | .kfApply => .kfApply c.a c.b

/-! ## Agent steps -/

/-- The instruction an agent step is. It is total and refuses no step (60_exceptions.md R250): an illegal command word
is rejected by name in `decodeCommand`, and the step is then the BUS_WRITE whose effect R187 gives. A write of a legal
command word to offset 0x00C is that command; the three misaligned offsets that reach CMD too (R73) stay BUS_WRITEs,
whose meaning runs the same command (log 9). -/
def decode : AgentStep → Instr
  | .hostRead off => .busRead off
  | .hostWrite off v =>
    if off = cmdOffset then
      match decodeCommand v with
      | .ok c => c.toInstr
      | .error _ => .busWrite off v
    else .busWrite off v
  | .linkByte b => .linkByte b

/-! ## The encoder -/

/-- The command word with fields OP, A, B and RSV = 0 (R104). -/
def commandWord (op a b : Byte) : Word := 0x00#8 ++ b ++ a ++ op

/-- The agent step that is a given instruction. -/
def encode : Instr → AgentStep
  | .nop a b => .hostWrite cmdOffset (commandWord 0x00#8 a b)
  | .send ty len => .hostWrite cmdOffset (commandWord 0x01#8 ty len)
  | .consume a b => .hostWrite cmdOffset (commandWord 0x02#8 a b)
  | .resetLink a b => .hostWrite cmdOffset (commandWord 0x03#8 a b)
  | .kfReset a b => .hostWrite cmdOffset (commandWord 0x10#8 a b)
  | .kfApply a b => .hostWrite cmdOffset (commandWord 0x11#8 a b)
  | .busRead off => .hostRead off
  | .busWrite off v => .hostWrite off v
  | .linkByte b => .linkByte b

/-! ## The opcode table's numbering -/

/-- The agent step a row's bits stand for, by the row's length: 8 bits are the received byte of LINK_BYTE; 12 bits (16 in
whole bytes) are the offset of a bus access, read as BUS_READ, since the table gives BUS_READ and BUS_WRITE the same bits
and the direction is the bus's own; 32 bits are a command word written to CMD; 48 bits are an offset in two bytes and then
the 32-bit value of a BUS_WRITE (log 8). -/
def tableStep (nbits w : Nat) : Except TableReject AgentStep :=
  if nbits = 8 then .ok (.linkByte (BitVec.ofNat 8 w))
  else if nbits = 12 then .ok (.hostRead (BitVec.ofNat 12 w))
  else if nbits = 16 then
    if w % 65536 < 4096 then .ok (.hostRead (BitVec.ofNat 12 w)) else .error .offsetTooWide
  else if nbits = 32 then .ok (.hostWrite cmdOffset (BitVec.ofNat 32 w))
  else if nbits = 48 then
    if w % 65536 < 4096 then .ok (.hostWrite (BitVec.ofNat 12 w) (BitVec.ofNat 32 (w / 65536)))
    else .error .offsetTooWide
  else .error .noSuchWidth

/-- The instruction the decoder reads from a row's bits. -/
def decodeTableWord (nbits w : Nat) : Option Instr :=
  match tableStep nbits w with
  | .ok a => some (decode a)
  | .error _ => none

end Sys2Proof
end

