-- ==== Sys2Proof/Machine/State.lean ====
section
/-!
DEFINITION. The architectural state (10_state.md R20 to R35), the inputs still to come, the reasons a step can stop, and
the state after power-on reset (R47).
-/

namespace Sys2Proof.Machine

/-! ## Pieces of the state -/

/-- A byte memory: (index, byte) pairs with strictly rising indices (`Memory.wf`). An index that is not listed has not
been written since power-on reset and has no value of its own: it reads as the free value `Config.powerOnByte` (log 5). -/
abbrev Memory := List Host.Cell

/-- The framer's receive state (R22). The state-machine state is a function of `index` (R23). -/
structure Rx where
  /-- `rx_buffer[0..CAP−1]` -/
  buffer : Memory
  /-- `rx_index` -/
  index : Cursor
  /-- `rx_expected_length` -/
  expectedLength : Cursor
  /-- `data_ready` -/
  dataReady : Bool
  deriving DecidableEq, Repr

/-- The framer's transmit state (R25). -/
structure Tx where
  /-- `tx_buffer[0..CAP−1]` -/
  buffer : Memory
  /-- `tx_index` -/
  index : Cursor
  /-- `tx_expected_length` -/
  expectedLength : Cursor
  deriving DecidableEq, Repr

/-- The framer's four sticky status bits (R28). -/
structure FramerStatus where
  ferr : Bool
  cerr : Bool
  ovr : Bool
  busy : Bool
  deriving DecidableEq, Repr

/-- The control state held in CTRL (R29). -/
structure Control where
  linkEn : Bool
  rxie : Bool
  txie : Bool
  deriving DecidableEq, Repr

/-- The Kalman operand registers KZ, KDDZ, KDT (R31). -/
structure KalmanOperands where
  kz : Word
  kddz : Word
  kdt : Word
  deriving DecidableEq, Repr

/-- The Kalman core's state words (R30); `p` is row-major. -/
structure Kalman where
  x0 : Word
  x1 : Word
  p0 : Word
  p1 : Word
  p2 : Word
  p3 : Word
  z : Word
  dz : Word
  deriving DecidableEq, Repr

/-- The Kalman core's three sticky status bits (R32). -/
structure KalmanStatus where
  ovf : Bool
  divz : Bool
  dterr : Bool
  deriving DecidableEq, Repr

/-- The outcome codes of a command (30_encoding.md R109). Codes 5, 6 and 7 are never produced, so they have no name. -/
inductive ResultCode
  | ok
  | nodata
  | busy
  | reject
  | illegal
  deriving DecidableEq, Repr

/-- The command result (R33): the opcode field of the last word written to CMD, and its outcome. -/
structure CmdResult where
  op : Byte
  code : ResultCode
  deriving DecidableEq, Repr

/-- What a step gives the agent that took it: the value of a BUS_READ (R180), the byte `t` of a byte exchange (R103), or
nothing (R181 returns no value). -/
inductive StepOutput
  | none
  | readData (v : Word)
  | sent (t : Byte)
  deriving DecidableEq, Repr

/-- What can reach the block from outside: a step of an agent (R20), or the platform's power-on reset, asserted and
released (70_reset_and_hazards.md R280; log 6). -/
inductive Input
  | powerOnReset
  | agent (a : AgentStep)
  deriving DecidableEq, Repr

/-! ## The state -/

/-- The state of the block. `build` is its configuration, which no step changes; `resets`, `out` and `pending` are the
model's own (logs 6, 7, 3). -/
structure State where
  /-- the build parameters (00_scope.md R5) -/
  build : Build
  /-- receive state (R22) -/
  rx : Rx
  /-- transmit state (R25) -/
  tx : Tx
  /-- `stage[0..PMAX−1]` (R26) -/
  stage : Memory
  /-- `snap[0..CAP−1]` (R27) -/
  snap : Memory
  /-- sticky framer status (R28) -/
  fstat : FramerStatus
  /-- control (R29) -/
  ctrl : Control
  /-- Kalman operand registers (R31) -/
  kop : KalmanOperands
  /-- Kalman state words (R30) -/
  kf : Kalman
  /-- sticky Kalman status (R32) -/
  kstat : KalmanStatus
  /-- command result (R33) -/
  result : CmdResult
  /-- MODEL: how many power-on resets there have been; it selects the free draw of unwritten bytes -/
  resets : Nat
  /-- MODEL: what the last step gave its agent -/
  out : StepOutput
  /-- MODEL: the inputs still to come, oldest first; the interleaving of R79 -/
  pending : List Input
  deriving DecidableEq, Repr

/-! ## Named updates, one for each part of the state -/

namespace State

def setRx (s : State) (r : Rx) : State := { s with rx := r }
def setTx (s : State) (t : Tx) : State := { s with tx := t }
def setStage (s : State) (m : Memory) : State := { s with stage := m }
def setSnap (s : State) (m : Memory) : State := { s with snap := m }
def setFstat (s : State) (f : FramerStatus) : State := { s with fstat := f }
def setCtrl (s : State) (c : Control) : State := { s with ctrl := c }
def setKop (s : State) (k : KalmanOperands) : State := { s with kop := k }
def setKf (s : State) (k : Kalman) : State := { s with kf := k }
def setKstat (s : State) (k : KalmanStatus) : State := { s with kstat := k }
def setResult (s : State) (op : Byte) (code : ResultCode) : State := { s with result := { op := op, code := code } }
def setOut (s : State) (o : StepOutput) : State := { s with out := o }
def setPending (s : State) (is : List Input) : State := { s with pending := is }

end State

/-! ## Why a step can stop -/

/-- The block never traps and never stops (60_exceptions.md R250), so no fault exists: the type has no constructor. -/
inductive Fault
  deriving DecidableEq, Repr

/-- Why the model gives no next state. -/
inductive Refusal
  /-- Raised by an arm of `exec` whose instruction has no meaning yet. No arm raises it. Safe. -/
  | notModelled (mnemonic : String)
  /-- Raised by `step` on a state whose build parameters are not a legal build (R5; 93_implementation_defined.md I20,
  I21: "a model rejects that configuration"). Safe: no such block exists (log 10). -/
  | illegalBuild
  deriving DecidableEq, Repr

/-! ## Reset -/

namespace State

/-- The state after the `n`-th power-on reset of a block built with `bd` (R47), with the inputs `is` still to come. The
four buffers are unspecified: nothing is listed in them. -/
def afterPowerOn (bd : Build) (n : Nat) (is : List Input) : State where
  build := bd
  rx := { buffer := [], index := 0#9, expectedLength := 4#9, dataReady := false }
  tx := { buffer := [], index := 0#9, expectedLength := 0#9 }
  stage := []
  snap := []
  fstat := { ferr := false, cerr := false, ovr := false, busy := false }
  ctrl := { linkEn := false, rxie := false, txie := false }
  kop := { kz := 0#32, kddz := 0#32, kdt := 0#32 }
  kf := { x0 := 0#32, x1 := 0#32, p0 := bd.kfP0, p1 := 0#32, p2 := 0#32, p3 := bd.kfP0, z := 0#32, dz := 0#32 }
  kstat := { ovf := false, divz := false, dterr := false }
  result := { op := 0x00#8, code := .ok }
  resets := n
  out := .none
  pending := is

/-- The machine right after reset: the default build (R5), the values of R47, no input yet (log 4). -/
def reset : State := afterPowerOn Build.default 0 []

end State

end Sys2Proof.Machine
end

