-- ==== Sys2Proof/Machine/Codec.lean ====
section
/-!
DEFINITION. The envelope codec, pure functions over byte sequences (40_envelope_codec.md R130 to R134) and the wire frame
(30_encoding.md R100 to R102).
-/

namespace Sys2Proof.Machine

/-- `Checksum(type, len, payload)` (R130): the sum modulo 65536, every byte taken unsigned. -/
def checksum (ty len : Byte) (payload : List Byte) : Sum16 :=
  BitVec.ofNat 16 (ty.toNat + len.toNat + (payload.map BitVec.toNat).sum)

/-- `{hi, lo}`: two bytes as a 16-bit value (R7), the high one first on the wire (R102). -/
def join16 (hi lo : Byte) : Sum16 := hi ++ lo

/-- `cs[15:8]`. -/
def sumHi (cs : Sum16) : Byte := cs.extractLsb' 8 8

/-- `cs[7:0]`. -/
def sumLo (cs : Sum16) : Byte := cs.extractLsb' 0 8

/-- `Encode(type, payload)` (R132): marks, TYPE, LENGTH, payload, checksum. The rule defines it for payloads of at most 255
bytes only. DESIGN CHOICE for a longer one, which the rule leaves undefined: the whole payload follows a LENGTH that is its
size modulo 256. No operation of the block encodes such a payload, since SEND's LENGTH is a byte (log 16). -/
def encodeFrame (mark ty : Byte) (payload : List Byte) : List Byte :=
  let len : Byte := BitVec.ofNat 8 payload.length
  let cs := checksum ty len payload
  [mark, mark, ty, len] ++ payload ++ [sumHi cs, sumLo cs]

/-- The failures of `Decode` (R133; 90_conflicts.md C4 for the names). -/
inductive CodecError
  | framingError
  | checksumError
  deriving DecidableEq, Repr

/-- `Decode(buf)` (R133), its checks in the rule's order. The marks are not checked (R134); bytes past the frame are
ignored. -/
def decodeFrame (buf : List Byte) : Except CodecError (Byte × List Byte) :=
  if buf.length < 4 then .error .framingError
  else
    let len := buf.getD 3 0#8
    if buf.length < 6 + len.toNat then .error .framingError
    else
      let ty := buf.getD 2 0#8
      let payload := (buf.drop 4).take len.toNat
      if join16 (buf.getD (4 + len.toNat) 0#8) (buf.getD (5 + len.toNat) 0#8) = checksum ty len payload then
        .ok (ty, payload)
      else .error .checksumError

end Sys2Proof.Machine
end

