-- ==== Sys2Proof/Machine/Ops.lean ====
section
/-!
DEFINITION. Shared operations: byte memories, the four buffers of the state, cursors, and the inputs. The block takes no
exceptions (60_exceptions.md R250); what stands in their place is `raise` (Machine/Flags.lean), and it never transfers
control (00_scope.md R8).
-/

namespace Sys2Proof.Machine

/-! ## Byte memories -/

namespace Memory

/-- The canonical form: indices strictly rise, so none is listed twice. -/
abbrev wf (m : Memory) : Prop := m.Pairwise fun c d => c.1 < d.1

/-- Every listed index is one of the `n` cells the buffer has. -/
abbrev within (n : Nat) (m : Memory) : Prop := ∀ c ∈ m, c.1 < n

/-- The byte written at an index, if any has been since power-on reset. -/
def written : Memory → Nat → Option Byte
  | [], _ => none
  | c :: m, i => if c.1 = i then some c.2 else written m i

/-- The byte an index reads as; `free` is what an unwritten one reads as (log 5). -/
def read (free : Nat → Byte) (m : Memory) (i : Nat) : Byte := (written m i).getD (free i)

/-- Store one byte, keeping the canonical form. -/
def write : Memory → Nat → Byte → Memory
  | [], i, v => [(i, v)]
  | c :: m, i, v =>
    if i < c.1 then (i, v) :: c :: m
    else if i = c.1 then (i, v) :: m
    else c :: write m i v

/-- Store bytes at consecutive indices from `i` on. -/
def writeBytes : Memory → Nat → List Byte → Memory
  | m, _, [] => m
  | m, i, v :: vs => writeBytes (write m i v) (i + 1) vs

end Memory

/-! ## The buffers of the state -/

namespace State

/-- `rx_buffer[i]` (R22). -/
def rxByte (s : State) (i : Nat) : Byte := Memory.read (Config.powerOnByte s.resets .rxBuffer) s.rx.buffer i

/-- `tx_buffer[i]` (R25). -/
def txByte (s : State) (i : Nat) : Byte := Memory.read (Config.powerOnByte s.resets .txBuffer) s.tx.buffer i

/-- `stage[i]` (R26). -/
def stageByte (s : State) (i : Nat) : Byte := Memory.read (Config.powerOnByte s.resets .stage) s.stage i

/-- `snap[i]` (R27). -/
def snapByte (s : State) (i : Nat) : Byte := Memory.read (Config.powerOnByte s.resets .snap) s.snap i

/-- `rx_buffer[a], rx_buffer[a+1], …`, `n` bytes (the slice notation of R7). -/
def rxSlice (s : State) (a n : Nat) : List Byte := (List.range n).map fun k => s.rxByte (a + k)

/-- `stage[0..n−1]`. -/
def stageSlice (s : State) (n : Nat) : List Byte := (List.range n).map s.stageByte

/-- `tx_pending = (tx_index < tx_expected_length)` (R25): computed, not stored. -/
def txPending (s : State) : Bool := decide (s.tx.index < s.tx.expectedLength)

/-- The interrupt output, a level computed from state (R34, R260): `(rxie ∧ data_ready) ∨ (txie ∧ ¬tx_pending)`. -/
def irq (s : State) : Bool := (s.ctrl.rxie && s.rx.dataReady) || (s.ctrl.txie && !s.txPending)

end State

/-! ## Cursors -/

/-- `rx_index <- 0; rx_expected_length <- 4`: back to AWAIT_MARK1 (R160, R159, R186). -/
def Rx.restart (r : Rx) : Rx := { r with index := 0#9, expectedLength := 4#9 }

/-- `rx_buffer[i] <- b; rx_index <- i + 1`, where `i` is `rx_index` (R154 to R158). -/
def Rx.store (r : Rx) (b : Byte) : Rx :=
  { r with buffer := Memory.write r.buffer r.index.toNat b, index := r.index + 1#9 }

/-! ## Inputs -/

namespace State

/-- Power-on reset of the block (R280): every element at the value of R47, and the unspecified buffers drawn anew. The
inputs still to come are not the block's own and stay. -/
def powerOnReset (s : State) : State := afterPowerOn s.build (s.resets + 1) s.pending

/-- Put an agent step before every other input. -/
def pushStep (s : State) (a : AgentStep) : State := s.setPending (.agent a :: s.pending)

end State

end Sys2Proof.Machine
end

