-- ==== Sys2Proof/Machine/Flags.lean ====
section
/-!
DEFINITION. Sticky status bits: raising one (00_scope.md R8), clearing by a host write of 1 (10_state.md R38, R43), and
the fixed-point primitives with the conditions they raise (43_kalman.md R210 to R214).
-/

namespace Sys2Proof.Machine

/-! ## Sticky bits -/

/-- The sticky bits of FSTAT (R28). -/
inductive FramerFlag
  | ferr
  | cerr
  | ovr
  | busy
  deriving DecidableEq, Repr

/-- `raise` of a framer bit: set it to 1 (R8); set again, it stays 1 (R257). -/
def FramerStatus.raise (f : FramerFlag) (st : FramerStatus) : FramerStatus :=
  match f with
  | .ferr => { st with ferr := true }
  | .cerr => { st with cerr := true }
  | .ovr => { st with ovr := true }
  | .busy => { st with busy := true }

/-- `raise FERR`, `raise CERR`, `raise OVR`, `raise BUSY`: control goes on in the same rule (R8). -/
def State.raise (f : FramerFlag) (s : State) : State := s.setFstat (s.fstat.raise f)

/-- `raise DTERR` (R219). -/
def State.raiseDterr (s : State) : State := s.setKstat { s.kstat with dterr := true }

/-- A write to FSTAT (R38): each of the bits 8 to 11 written as 1 clears its status bit. -/
def FramerStatus.clear (v : Word) (st : FramerStatus) : FramerStatus where
  ferr := st.ferr && !v.getLsbD 8
  cerr := st.cerr && !v.getLsbD 9
  ovr := st.ovr && !v.getLsbD 10
  busy := st.busy && !v.getLsbD 11

/-- A write to KSTAT (R43): each of the bits 0 to 2 written as 1 clears its status bit. -/
def KalmanStatus.clear (v : Word) (st : KalmanStatus) : KalmanStatus where
  ovf := st.ovf && !v.getLsbD 0
  divz := st.divz && !v.getLsbD 1
  dterr := st.dterr && !v.getLsbD 2

/-! ## Fixed-point primitives -/

/-- A fixed-point word together with the conditions raised in computing it: OVF (R214) and DIVZ (R213). -/
structure Fx where
  val : Word
  ovf : Bool
  divz : Bool
  deriving DecidableEq, Repr

/-- `wrap32(n)`: the `s32` congruent to `n` modulo 2^32 (R8). -/
def wrap32 (n : Int) : Word := BitVec.ofInt 32 n

/-- Whether an exact integer result is outside −2^31..2^31−1, the condition of OVF (R211 to R213). -/
def overflows (n : Int) : Bool := decide (n < -2147483648 ∨ 2147483647 < n)

/-- An exact integer result, wrapped, with OVF raised when it does not fit (R214). -/
def Fx.ofExact (n : Int) : Fx := { val := wrap32 n, ovf := overflows n, divz := false }

/-- `fadd(a, b)` (R211). -/
def fadd (a b : Word) : Fx := Fx.ofExact (a.toInt + b.toInt)

/-- `fsub(a, b)` (R211). -/
def fsub (a b : Word) : Fx := Fx.ofExact (a.toInt - b.toInt)

/-- `fmul(a, b)` with `F` fraction bits: the exact product, floored (R212). -/
def fmul (fracBits : Nat) (a b : Word) : Fx := Fx.ofExact ((a.toInt * b.toInt).fdiv (2 ^ fracBits))

/-- `fdiv(a, b)` with `F` fraction bits: the quotient truncated toward zero; a zero divisor gives 0 and DIVZ (R213). -/
def fdiv (fracBits : Nat) (a b : Word) : Fx :=
  if b = 0#32 then { val := 0#32, ovf := false, divz := true }
  else Fx.ofExact ((a.toInt * 2 ^ fracBits).tdiv b.toInt)

/-! ## Primitives in sequence

A command is a sequence of primitives, and each that raises a condition sets the sticky bit while the rest goes on with
the wrapped value (R214). A word read from a register raises nothing; an operand's conditions stay with what is computed
from it. -/

/-- A word read from a register or a build constant. -/
def Fx.ofWord (w : Word) : Fx := { val := w, ovf := false, divz := false }

/-- A primitive's result after its operands: their conditions and its own. -/
def Fx.after (r a b : Fx) : Fx :=
  { val := r.val, ovf := a.ovf || b.ovf || r.ovf, divz := a.divz || b.divz || r.divz }

def Fx.add (a b : Fx) : Fx := (fadd a.val b.val).after a b
def Fx.sub (a b : Fx) : Fx := (fsub a.val b.val).after a b
def Fx.mul (fracBits : Nat) (a b : Fx) : Fx := (fmul fracBits a.val b.val).after a b
def Fx.div (fracBits : Nat) (a b : Fx) : Fx := (fdiv fracBits a.val b.val).after a b

end Sys2Proof.Machine
end

