-- ==== Sys2Proof/Machine/Link.lean ====
section
/-!
DEFINITION. The link framer: LINK_BYTE (41_link_framer.md R150 to R160), its transmit side and its receive side.
-/

namespace Sys2Proof.Machine

namespace State

/-! ## Transmit side (R153) -/

/-- The byte `t` of an enabled exchange: the next byte of a pending frame, else FILL. -/
def txOut (s : State) : Byte := if s.txPending then s.txByte s.tx.index.toNat else s.build.fill

/-- The transmit cursor after an enabled exchange. -/
def advanceTx (s : State) : State := if s.txPending then s.setTx { s.tx with index := s.tx.index + 1#9 } else s

/-! ## Receive side -/

/-- `rx_buffer[rx_index] <- b; rx_index <- rx_index + 1`. -/
def storeRx (b : Byte) (s : State) : State := s.setRx (s.rx.store b)

/-- Back to AWAIT_MARK1 (R160). -/
def restartRx (s : State) : State := s.setRx s.rx.restart

/-- `data_ready <- v`. -/
def setDataReady (v : Bool) (s : State) : State := s.setRx { s.rx with dataReady := v }

/-- AWAIT_MARK1 (R154): a MARK is stored, anything else is ignored. -/
def awaitMark1 (b : Byte) (s : State) : State := if b = s.build.mark then s.storeRx b else s

/-- AWAIT_MARK2 (R155): a MARK arms the frame, and an unconsumed frame is lost to OVR; anything else is a FramingError. -/
def awaitMark2 (b : Byte) (s : State) : State :=
  if b = s.build.mark then
    if s.rx.dataReady then ((s.storeRx b).setDataReady false).raise .ovr else s.storeRx b
  else (s.setRx { s.rx with index := 0#9 }).raise .ferr

/-- READING_TYPE (R157): any byte is the TYPE. -/
def readType (b : Byte) (s : State) : State := s.storeRx b

/-- READING_LENGTH (R156): a frame of `6 + b` bytes that does not fit in CAP is a FramingError, and `b` is not stored. -/
def readLength (b : Byte) (s : State) : State :=
  if s.build.cap < 6 + b.toNat then s.restartRx.raise .ferr
  else
    let s := s.storeRx b
    s.setRx { s.rx with expectedLength := BitVec.ofNat 9 (6 + b.toNat) }

/-- `L = rx_buffer[3]`. -/
def rxLength (s : State) : Nat := (s.rxByte 3).toNat

/-- `{rx_buffer[4+L], rx_buffer[5+L]}`. -/
def storedSum (s : State) : Sum16 := join16 (s.rxByte (4 + s.rxLength)) (s.rxByte (5 + s.rxLength))

/-- `Checksum(rx_buffer[2], L, rx_buffer[4..3+L])`. -/
def computedSum (s : State) : Sum16 := checksum (s.rxByte 2) (s.rxByte 3) (s.rxSlice 4 s.rxLength)

/-- VALIDATING (R159): `data_ready` on a match, CERR otherwise, and back to AWAIT_MARK1 either way. -/
def validate (s : State) : State :=
  if s.storedSum = s.computedSum then (s.setDataReady true).restartRx else (s.raise .cerr).restartRx

/-- READING_PAYLOAD (R158): store the byte; the byte that completes the frame validates it in the same step. -/
def readPayload (b : Byte) (s : State) : State :=
  let s := s.storeRx b
  if s.rx.index = s.rx.expectedLength then s.validate else s

/-- The receive side of an enabled exchange, by the receive position (R23, R151). -/
def receive (b : Byte) (s : State) : State :=
  if s.rx.index = 0#9 then s.awaitMark1 b
  else if s.rx.index = 1#9 then s.awaitMark2 b
  else if s.rx.index = 2#9 then s.readType b
  else if s.rx.index = 3#9 then s.readLength b
  else s.readPayload b

end State

/-- LINK_BYTE (R151). While the link is disabled the byte is lost, FILL is sent and nothing changes (R152). -/
def execLinkByte (b : Byte) (s : State) : Host.Outcome State Fault Refusal :=
  if s.ctrl.linkEn then .next ((s.advanceTx.receive b).setOut (.sent s.txOut))
  else .next (s.setOut (.sent s.build.fill))

end Sys2Proof.Machine
end

