-- ==== Sys2Proof/Machine/Commands.lean ====
section
/-!
DEFINITION. The channel commands (42_channel_commands.md R183 to R187). A command is the bus write of its word, so it
gives the agent no value.
-/

namespace Sys2Proof.Machine

/-- `result <- (op, code)`, the end of every command (R182); a bus write returns nothing (R181). -/
def State.finish (op : Byte) (code : ResultCode) (s : State) : State := (s.setResult op code).setOut .none

/-- NOP (R183). A and B are ignored (R108). -/
def execNop (_a _b : Byte) (s : State) : Host.Outcome State Fault Refusal := .next (s.finish 0x00#8 .ok)

/-- Load the transmitter with an encoded frame (R184): `tx_buffer[0..] <- frame`, the cursors at its start and end. -/
def State.loadTx (frame : List Byte) (s : State) : State :=
  s.setTx { buffer := Memory.writeBytes s.tx.buffer 0 frame, index := 0#9, expectedLength := BitVec.ofNat 9 frame.length }

/-- SEND (R184): BUSY while a transmission is pending, REJECT for a LENGTH above PMAX, else the frame of TYPE `ty` and the
first `len` bytes of `stage` is loaded. -/
def execSend (ty len : Byte) (s : State) : Host.Outcome State Fault Refusal :=
  if s.txPending then .next ((s.raise .busy).finish 0x01#8 .busy)
  else if s.build.cap < 6 + len.toNat then .next (s.finish 0x01#8 .reject)
  else .next ((s.loadTx (encodeFrame s.build.mark ty (s.stageSlice len.toNat))).finish 0x01#8 .ok)

/-- `snap[0..CAP−1] <- rx_buffer[0..CAP−1]` (R185), stale bytes included. -/
def State.takeSnapshot (s : State) : State := s.setSnap (Memory.writeBytes s.snap 0 (s.rxSlice 0 s.build.cap))

/-- CONSUME (R185): copy the whole receive buffer and clear `data_ready`, or NODATA. -/
def execConsume (_a _b : Byte) (s : State) : Host.Outcome State Fault Refusal :=
  if s.rx.dataReady then .next ((s.takeSnapshot.setDataReady false).finish 0x02#8 .ok)
  else .next (s.finish 0x02#8 .nodata)

/-- RESET_LINK (R186): the cursors at rest, `data_ready` cleared; buffers, sticky bits and CTRL are kept. -/
def execResetLink (_a _b : Byte) (s : State) : Host.Outcome State Fault Refusal :=
  .next (((s.restartRx.setDataReady false).setTx { s.tx with index := 0#9, expectedLength := 0#9 }).finish 0x03#8 .ok)

/-- An illegal command word (R187): only `result` changes. -/
def illegalCommand (v : Word) (s : State) : Host.Outcome State Fault Refusal := .next (s.finish (cmdOp v) .illegal)

end Sys2Proof.Machine
end

