-- ==== Sys2Proof/Machine/KalmanCore.lean ====
section
/-!
DEFINITION. The Kalman core's commands (43_kalman.md R215 to R219).
-/

namespace Sys2Proof.Machine

/-- The Kalman state KF_RESET leaves (R217), and power-on reset too (10_state.md R47). -/
def Kalman.initial (bd : Build) : Kalman where
  x0 := 0#32
  x1 := 0#32
  p0 := bd.kfP0
  p1 := 0#32
  p2 := 0#32
  p3 := bd.kfP0
  z := 0#32
  dz := 0#32

/-- KF_RESET (R217). The sticky bits and the operand registers are not changed. -/
def execKfReset (_a _b : Byte) (s : State) : Host.Outcome State Fault Refusal :=
  .next ((s.setKf (Kalman.initial s.build)).finish 0x10#8 .ok)

/-! ## KF_APPLY (R218), its primitives in the rule's order -/

/-- The predicted state and covariance: `x0m, x1m, p0m, p1m, p2m, p3m`. -/
structure KfPredicted where
  x0m : Fx
  x1m : Fx
  p0m : Fx
  p1m : Fx
  p2m : Fx
  p3m : Fx
  deriving DecidableEq, Repr

/-- The gain and the residual: `k0, k1, r`. -/
structure KfGain where
  k0 : Fx
  k1 : Fx
  r : Fx
  deriving DecidableEq, Repr

/-- The updated state and covariance. -/
structure KfUpdated where
  x0 : Fx
  x1 : Fx
  p0 : Fx
  p1 : Fx
  p2 : Fx
  p3 : Fx
  deriving DecidableEq, Repr

/-- "predict state" and "predict covariance" of R218. -/
def kfPredict (bd : Build) (k : Kalman) (ops : KalmanOperands) : KfPredicted :=
  let F := bd.fracBits
  let dt := Fx.ofWord ops.kdt
  let t2 := Fx.mul F dt (Fx.ofWord k.p3)
  let t3 := Fx.add (Fx.add (Fx.ofWord k.p1) (Fx.ofWord k.p2)) t2
  { x0m := Fx.add (Fx.ofWord k.x0) (Fx.mul F dt (Fx.ofWord k.x1))
    x1m := Fx.add (Fx.ofWord k.x1) (Fx.mul F dt (Fx.ofWord ops.kddz))
    p0m := Fx.add (Fx.add (Fx.ofWord k.p0) (Fx.mul F dt t3)) (Fx.ofWord bd.kfQ)
    p1m := Fx.add (Fx.ofWord k.p1) t2
    p2m := Fx.add (Fx.ofWord k.p2) t2
    p3m := Fx.add (Fx.ofWord k.p3) (Fx.ofWord bd.kfQ) }

/-- "gain" of R218, and the residual. -/
def kfGain (bd : Build) (m : KfPredicted) (ops : KalmanOperands) : KfGain :=
  let s := Fx.add m.p0m (Fx.ofWord bd.kfR)
  { k0 := Fx.div bd.fracBits m.p0m s
    k1 := Fx.div bd.fracBits m.p2m s
    r := Fx.sub (Fx.ofWord ops.kz) m.x0m }

/-- "update" of R218. The covariance updates read only the predicted values and the gain. -/
def kfUpdate (bd : Build) (m : KfPredicted) (g : KfGain) : KfUpdated :=
  let F := bd.fracBits
  { x0 := Fx.add m.x0m (Fx.mul F g.k0 g.r)
    x1 := Fx.add m.x1m (Fx.mul F g.k1 g.r)
    p0 := Fx.sub m.p0m (Fx.mul F g.k0 m.p0m)
    p1 := Fx.sub m.p1m (Fx.mul F g.k0 m.p1m)
    p2 := Fx.sub m.p2m (Fx.mul F g.k1 m.p0m)
    p3 := Fx.sub m.p3m (Fx.mul F g.k1 m.p1m) }

/-- One predict-update cycle (R218). -/
def kfCycle (bd : Build) (k : Kalman) (ops : KalmanOperands) : KfUpdated :=
  let m := kfPredict bd k ops
  kfUpdate bd m (kfGain bd m ops)

/-- The state words after an accepted KF_APPLY (R218): `z` is the measurement used and `dz` the new `x1`. -/
def KfUpdated.words (u : KfUpdated) (ops : KalmanOperands) : Kalman where
  x0 := u.x0.val
  x1 := u.x1.val
  p0 := u.p0.val
  p1 := u.p1.val
  p2 := u.p2.val
  p3 := u.p3.val
  z := ops.kz
  dz := u.x1.val

/-- Whether some primitive of the cycle raised OVF. Every primitive of R218 is an operand, direct or not, of one of the six
results, so its conditions are among theirs (log 12). -/
def KfUpdated.ovf (u : KfUpdated) : Bool := u.x0.ovf || u.x1.ovf || u.p0.ovf || u.p1.ovf || u.p2.ovf || u.p3.ovf

/-- Whether some primitive of the cycle raised DIVZ. -/
def KfUpdated.divz (u : KfUpdated) : Bool := u.x0.divz || u.x1.divz || u.p0.divz || u.p1.divz || u.p2.divz || u.p3.divz

/-- KF_APPLY (R218), with the guard of R219: `sext_32(kdt) ≤ 0` is rejected and changes no Kalman state word. -/
def execKfApply (_a _b : Byte) (s : State) : Host.Outcome State Fault Refusal :=
  if s.kop.kdt.toInt ≤ 0 then .next (s.raiseDterr.finish 0x11#8 .reject)
  else
    let u := kfCycle s.build s.kf s.kop
    let s := s.setKf (u.words s.kop)
    let s := s.setKstat { s.kstat with ovf := s.kstat.ovf || u.ovf, divz := s.kstat.divz || u.divz }
    .next (s.finish 0x11#8 .ok)

end Sys2Proof.Machine
end

