-- ==== Sys2Proof/Machine/Operands.lean ====
section
/-!
DEFINITION. The register window: the address map (20_memory.md R71 to R73), the value every register reads as
(10_state.md R36 to R46), and what a plain write stores (R37, R38, R42, R43, R45).
-/

namespace Sys2Proof.Machine

/-! ## The address map -/

/-- The registers of the window (R71). -/
inductive Reg
  | cfg
  | ctrl
  | fstat
  | cmd
  | rxcur
  | txcur
  | kz
  | kddz
  | kdt
  | kstat
  | kx0
  | kx1
  | kp0
  | kp1
  | kp2
  | kp3
  | kzl
  | kdz
  | txstage (i : Nat)
  | snap (i : Nat)
  | unmapped
  deriving DecidableEq, Repr

/-- The offset of the word an access reaches: bits [1:0] are ignored (R73, R180). -/
def alignedOffset (off : Offset) : Nat := 4 * (off.toNat / 4)

/-- The registers that are single words, by offset (R71). -/
def namedReg (a : Nat) : Reg :=
  match a with
  | 0x000 => .cfg
  | 0x004 => .ctrl
  | 0x008 => .fstat
  | 0x00C => .cmd
  | 0x010 => .rxcur
  | 0x014 => .txcur
  | 0x040 => .kz
  | 0x044 => .kddz
  | 0x048 => .kdt
  | 0x04C => .kstat
  | 0x050 => .kx0
  | 0x054 => .kx1
  | 0x058 => .kp0
  | 0x05C => .kp1
  | 0x060 => .kp2
  | 0x064 => .kp3
  | 0x068 => .kzl
  | 0x06C => .kdz
  | _ => .unmapped

/-- The register at a word's offset (R71): the two byte windows, and the single words. -/
def regOfAligned (a : Nat) : Reg :=
  if 0x400 ≤ a ∧ a ≤ 0x7F8 then .txstage ((a - 0x400) / 4)
  else if 0x800 ≤ a ∧ a ≤ 0xC10 then .snap ((a - 0x800) / 4)
  else namedReg a

/-- The register an offset reaches (R71, R73). -/
def regAt (off : Offset) : Reg := regOfAligned (alignedOffset off)

/-! ## Register values -/

/-- One bit of a register. -/
def bit (b : Bool) : BitVec 1 := BitVec.ofBool b

/-- The RX_STATE code of a receive position (R23): 0 to 3 for the header, 4 for READING_PAYLOAD. -/
def rxStateCode (index : Cursor) : BitVec 3 :=
  if index = 0#9 then 0#3
  else if index = 1#9 then 1#3
  else if index = 2#9 then 2#3
  else if index = 3#9 then 3#3
  else 4#3

/-- The result codes of R109. -/
def ResultCode.code : ResultCode → BitVec 3
  | .ok => 0#3
  | .nodata => 1#3
  | .busy => 2#3
  | .reject => 3#3
  | .illegal => 4#3

/-- CFG (R36): MARK, FILL, CAP, FRAC. -/
def cfgValue (bd : Build) : Word :=
  0#2 ++ BitVec.ofNat 5 bd.fracBits ++ BitVec.ofNat 9 bd.cap ++ bd.fill ++ bd.mark

/-- CTRL (R37): LINK_EN, RXIE, TXIE. -/
def ctrlValue (c : Control) : Word := 0#29 ++ bit c.txie ++ bit c.rxie ++ bit c.linkEn

/-- FSTAT (R38). IRQ, TX_PENDING and RX_STATE are computed at the time of the read (R180). -/
def fstatValue (s : State) : Word :=
  0#19 ++ bit s.irq ++ bit s.fstat.busy ++ bit s.fstat.ovr ++ bit s.fstat.cerr ++ bit s.fstat.ferr ++ 0#3
    ++ rxStateCode s.rx.index ++ bit s.txPending ++ bit s.rx.dataReady

/-- CMD as read (R39): the last OP and its outcome code. -/
def cmdValue (r : CmdResult) : Word := 0#21 ++ r.code.code ++ r.op

/-- RXCUR and TXCUR (R40, R41): an index in bits [8:0], an expected length in bits [24:16]. -/
def cursorValue (index expectedLength : Cursor) : Word := 0#7 ++ expectedLength ++ 0#7 ++ index

/-- KSTAT (R43). -/
def kstatValue (k : KalmanStatus) : Word := 0#29 ++ bit k.dterr ++ bit k.divz ++ bit k.ovf

/-- The value a register reads as (R36 to R46); 0 where it is unmapped, and past PMAX and CAP in the two byte windows
(R72). -/
def regValue (s : State) : Reg → Word
  | .cfg => cfgValue s.build
  | .ctrl => ctrlValue s.ctrl
  | .fstat => fstatValue s
  | .cmd => cmdValue s.result
  | .rxcur => cursorValue s.rx.index s.rx.expectedLength
  | .txcur => cursorValue s.tx.index s.tx.expectedLength
  | .kz => s.kop.kz
  | .kddz => s.kop.kddz
  | .kdt => s.kop.kdt
  | .kstat => kstatValue s.kstat
  | .kx0 => s.kf.x0
  | .kx1 => s.kf.x1
  | .kp0 => s.kf.p0
  | .kp1 => s.kf.p1
  | .kp2 => s.kf.p2
  | .kp3 => s.kf.p3
  | .kzl => s.kf.z
  | .kdz => s.kf.dz
  | .txstage i => if i < s.build.pmax then (s.stageByte i).setWidth 32 else 0#32
  | .snap i => if i < s.build.cap then (s.snapByte i).setWidth 32 else 0#32
  | .unmapped => 0#32

/-! ## Plain writes -/

/-- CTRL as written (R37): the three defined bits; the reserved bits are ignored. -/
def ctrlOfWord (v : Word) : Control where
  linkEn := v.getLsbD 0
  rxie := v.getLsbD 1
  txie := v.getLsbD 2

/-- What a write stores in a register other than CMD (R181). A read-only register, the SNAP window, TXSTAGE past PMAX and
unmapped offsets ignore it; a write to CMD is `execute` (Machine/Bus.lean). -/
def writeReg (r : Reg) (v : Word) (s : State) : State :=
  match r with
  | .ctrl => s.setCtrl (ctrlOfWord v)
  | .fstat => s.setFstat (s.fstat.clear v)
  | .kz => s.setKop { s.kop with kz := v }
  | .kddz => s.setKop { s.kop with kddz := v }
  | .kdt => s.setKop { s.kop with kdt := v }
  | .kstat => s.setKstat (s.kstat.clear v)
  | .txstage i => if i < s.build.pmax then s.setStage (Memory.write s.stage i (v.setWidth 8)) else s
  | .cfg => s
  | .cmd => s
  | .rxcur => s
  | .txcur => s
  | .kx0 => s
  | .kx1 => s
  | .kp0 => s
  | .kp1 => s
  | .kp2 => s
  | .kp3 => s
  | .kzl => s
  | .kdz => s
  | .snap _ => s
  | .unmapped => s

end Sys2Proof.Machine
end

