-- ==== Sys2Proof/Machine/Bus.lean ====
section
/-!
DEFINITION. The host's bus accesses (42_channel_commands.md R180 to R182).
-/

namespace Sys2Proof.Machine

/-- BUS_READ (R180): the register's value; no state changes. -/
def execBusRead (off : Offset) (s : State) : Host.Outcome State Fault Refusal :=
  .next (s.setOut (.readData (regValue s (regAt off))))

/-- `Execute(v)` (R182): decode the command word and perform the command, or R187, in this step. -/
def execute (v : Word) (s : State) : Host.Outcome State Fault Refusal :=
  match decodeCommand v with
  | .error _ => illegalCommand v s
  | .ok c =>
    match c.op with
    | .nop => execNop c.a c.b s
    | .send => execSend c.a c.b s
    | .consume => execConsume c.a c.b s
    | .resetLink => execResetLink c.a c.b s
    | .kfReset => execKfReset c.a c.b s
    | .kfApply => execKfApply c.a c.b s

/-- BUS_WRITE (R181): a write to CMD runs a command, any other is a plain register write. -/
def execBusWrite (off : Offset) (v : Word) (s : State) : Host.Outcome State Fault Refusal :=
  if regAt off = .cmd then execute v s else .next ((writeReg (regAt off) v s).setOut .none)

end Sys2Proof.Machine
end

