-- ==== Sys2Proof/Machine/Dispatch.lean ====
section
/-!
DEFINITION. One arm per instruction.
-/

namespace Sys2Proof.Machine

def exec (i : Instr) (s : State) : Host.Outcome State Fault Refusal :=
  match i with
  | .nop a b => Sys2Proof.Machine.execNop a b s
  | .send ty len => Sys2Proof.Machine.execSend ty len s
  | .consume a b => Sys2Proof.Machine.execConsume a b s
  | .resetLink a b => Sys2Proof.Machine.execResetLink a b s
  | .kfReset a b => Sys2Proof.Machine.execKfReset a b s
  | .kfApply a b => Sys2Proof.Machine.execKfApply a b s
  | .busRead off => Sys2Proof.Machine.execBusRead off s
  | .busWrite off v => Sys2Proof.Machine.execBusWrite off v s
  | .linkByte b => Sys2Proof.Machine.execLinkByte b s

end Sys2Proof.Machine
end

