-- ==== Sys2Proof/Machine/Step.lean ====
section
/-!
DEFINITION. One step of the block: the oldest input is taken (20_memory.md R76 to R79).
-/

namespace Sys2Proof.Machine

/-- One step. The oldest pending input acts: an agent's step is decoded and executed whole (R9, R76), power-on reset puts
every element at its reset value (R280). With no input nothing happens, since the block makes no step up (R79). A state
whose build is not legal is no block (93_implementation_defined.md I20, I21) and is refused. -/
def step (s : State) : Host.Outcome State Fault Refusal :=
  if s.build.legal then
    match s.pending with
    | [] => .next s
    | .powerOnReset :: rest => .next (s.setPending rest).powerOnReset
    | .agent a :: rest => exec (decode a) (s.setPending rest)
  else .refused .illegalBuild

/-- `s` with the agent step of a table word (`tableStep`) placed before every other input, so that the next step runs it; a
word of no row leaves `s` as it is (log 4). -/
def State.withFetchWord (s : State) (nbits w : Nat) : State :=
  match tableStep nbits w with
  | .ok a => s.pushStep a
  | .error _ => s

end Sys2Proof.Machine
end

