-- ==== Sys2Proof/Machine/Pseudo.lean ====
section
/-!
DEFINITION. The assembler's basic operations and pseudo-instructions with their exact expansions (30_encoding.md R110,
R111). They stand for agent steps and add no operation of their own.
-/

namespace Sys2Proof.Machine

/-- The statements of R110 and R111. The `=> V` parts of R110 state expected values and are no part of a step. -/
inductive Pseudo
  | wr (off : Offset) (v : Word)
  | rd (off : Offset)
  | byte (b : Byte)
  | cmd (op a b : Byte)
  | nop
  | send (ty len : Byte)
  | consume
  | resetLink
  | kfReset
  | kfApply
  | linkOn
  | stage (i : Nat) (v : Word)
  | kfIn (z ddz dt : Word)
  | frame (ty : Byte) (payload : List Byte)
  | clrFstat
  | clrKstat
  deriving DecidableEq, Repr

/-- The agent steps a statement expands to (R110, R111), in order. What `frame` with a payload of more than 255 bytes
expands to is the model's choice (log 16). -/
def Pseudo.expand (mark : Byte) : Pseudo → List AgentStep
  | .wr off v => [.hostWrite off v]
  | .rd off => [.hostRead off]
  | .byte b => [.linkByte b]
  | .cmd op a b => [.hostWrite 0x00C#12 ((b.setWidth 32 <<< 16) ||| (a.setWidth 32 <<< 8) ||| op.setWidth 32)]
  | .nop => [.hostWrite 0x00C#12 0x00000000#32]
  | .send ty len => [.hostWrite 0x00C#12 ((len.setWidth 32 <<< 16) ||| (ty.setWidth 32 <<< 8) ||| 0x01#32)]
  | .consume => [.hostWrite 0x00C#12 0x00000002#32]
  | .resetLink => [.hostWrite 0x00C#12 0x00000003#32]
  | .kfReset => [.hostWrite 0x00C#12 0x00000010#32]
  | .kfApply => [.hostWrite 0x00C#12 0x00000011#32]
  | .linkOn => [.hostWrite 0x004#12 0x00000001#32]
  | .stage i v => [.hostWrite (BitVec.ofNat 12 (0x400 + 4 * i)) v]
  | .kfIn z ddz dt => [.hostWrite 0x040#12 z, .hostWrite 0x044#12 ddz, .hostWrite 0x048#12 dt]
  | .frame ty payload => (encodeFrame mark ty payload).map .linkByte
  | .clrFstat => [.hostWrite 0x008#12 0x00000F00#32]
  | .clrKstat => [.hostWrite 0x04C#12 0x00000007#32]

end Sys2Proof.Machine
end

