-- ==== Sys2Proof/Safety.lean ====
section
/-!
DEFINITION. What the claims speak of: the invariants every reachable state satisfies (10_state.md R24, R25;
41_link_framer.md R164), the order on sticky bits (60_exceptions.md R259), and runs of agent steps.
-/

namespace Sys2Proof.Machine

namespace State

/-- The length of the frame in `rx_buffer`, `6 + L` with `L = rx_buffer[3]` (R22). -/
def heldTotal (s : State) : Nat := 6 + s.rxLength

/-- `rx_buffer[0..5+L]` is a frame: it fits, begins with two marks, and passes its checksum (R24.4, R164). -/
def HoldsValidFrame (s : State) : Prop :=
  s.heldTotal ≤ s.build.cap ∧ s.rxByte 0 = s.build.mark ∧ s.rxByte 1 = s.build.mark ∧ s.storedSum = s.computedSum

/-- Receive cursors: R24.1 to R24.3. -/
def RxCursorsOk (s : State) : Prop :=
  s.rx.index < s.rx.expectedLength ∧ s.rx.expectedLength.toNat ≤ s.build.cap ∧
    (s.rx.index.toNat ≤ 3 → s.rx.expectedLength = 4#9)

/-- What the bytes stored so far are: the marks, and from READING_PAYLOAD on the LENGTH the expected total comes from
(R22, R23). -/
def RxHeaderOk (s : State) : Prop :=
  (1 ≤ s.rx.index.toNat → s.rxByte 0 = s.build.mark) ∧ (2 ≤ s.rx.index.toNat → s.rxByte 1 = s.build.mark) ∧
    (4 ≤ s.rx.index.toNat → s.rx.expectedLength.toNat = s.heldTotal)

/-- `data_ready = 1` only in AWAIT_MARK1 and AWAIT_MARK2, and with a valid frame held (R24.4). -/
def DataReadyOk (s : State) : Prop := s.rx.dataReady = true → s.rx.index.toNat ≤ 1 ∧ s.HoldsValidFrame

/-- `tx_index ≤ tx_expected_length ≤ CAP` (R25). -/
def TxCursorsOk (s : State) : Prop :=
  s.tx.index ≤ s.tx.expectedLength ∧ s.tx.expectedLength.toNat ≤ s.build.cap

/-- The four byte memories are in canonical form and list only cells the block has (R22, R25 to R27). -/
def BuffersOk (s : State) : Prop :=
  (Memory.wf s.rx.buffer ∧ Memory.within s.build.cap s.rx.buffer) ∧
  (Memory.wf s.tx.buffer ∧ Memory.within s.build.cap s.tx.buffer) ∧
  (Memory.wf s.stage ∧ Memory.within s.build.pmax s.stage) ∧
  (Memory.wf s.snap ∧ Memory.within s.build.cap s.snap)

/-- The invariant of the block: a legal build, R24, R25, and canonical buffers. -/
structure Inv (s : State) : Prop where
  build : s.build.legal = true
  rxCursors : s.RxCursorsOk
  rxHeader : s.RxHeaderOk
  dataReady : s.DataReadyOk
  txCursors : s.TxCursorsOk
  buffers : s.BuffersOk

/-- Every sticky bit set in `s` is set in `t` (R259: what no step but a write of 1 or power-on reset undoes). -/
def StickyKept (s t : State) : Prop :=
  (s.fstat.ferr → t.fstat.ferr) ∧ (s.fstat.cerr → t.fstat.cerr) ∧ (s.fstat.ovr → t.fstat.ovr) ∧
  (s.fstat.busy → t.fstat.busy) ∧ (s.kstat.ovf → t.kstat.ovf) ∧ (s.kstat.divz → t.kstat.divz) ∧
  (s.kstat.dterr → t.kstat.dterr)

end State

/-- Run a list of LINK exchanges with the received bytes `bs`: the state after them, and the bytes transmitted. A step that
stops ends the run. -/
def runLink : List Byte → State → State × List Byte
  | [], s => (s, [])
  | b :: bs, s =>
    match exec (.linkByte b) s with
    | .next s' =>
      let rest := runLink bs s'
      (rest.1, (match s'.out with | .sent t => [t] | .none => [] | .readData _ => []) ++ rest.2)
    | .fault _ => (s, [])
    | .refused _ => (s, [])

/-- The value a bus read of `off` gives at `s` (R180). -/
def busValue (off : Offset) (s : State) : Word := regValue s (regAt off)

end Sys2Proof.Machine
end

