-- ==== Sys2Proof/Certificates/Slice0/Obligations.lean ====
section
/-!
DEFINITION. The statements for the provers, from the spec's numbered rules. `{ s with … := t.… }` says what a step changed:
every part of the state that is not named is as before. The fields `out`, `pending` and `resets` are the model's own (logs
7, 3, 6): `out` holds what the step gives its agent, the value of a read (R180), the byte `t` (R103), or nothing (R181).
-/

open Sys2Proof Sys2Proof.Machine

/-! ## Encoding and decoding (30_encoding.md) -/

/-- No bit of a command word, an offset or a byte is lost between an instruction and its agent step (R103, R104, R105,
R108). -/
def Obligations.EncodedInstructionDecodesToItself : Prop :=
  ∀ i : Instr, i.wellFormed = true → decode (encode i) = i

/-- Every agent step is one well-formed instruction, whose encoding is that step (the model's choice of spelling, log 9). -/
def Obligations.EveryAgentStepIsOneInstruction : Prop :=
  ∀ a : AgentStep, (decode a).wellFormed = true ∧ encode (decode a) = a

/-- A command word by its four fields, as numbers: RSV first (R106), then OP (R105, R107), A and B plain bytes (R104,
R108). -/
def Obligations.CommandWordIsDecodedByItsFields : Prop :=
  (Opcode.code .nop = 0x00#8 ∧ Opcode.code .send = 0x01#8 ∧ Opcode.code .consume = 0x02#8 ∧
    Opcode.code .resetLink = 0x03#8 ∧ Opcode.code .kfReset = 0x10#8 ∧ Opcode.code .kfApply = 0x11#8) ∧
  ∀ v : Word,
    (v.toNat / 0x1000000 ≠ 0 → decodeCommand v = .error .reservedBits) ∧
    (v.toNat / 0x1000000 = 0 → (∀ op : Opcode, v.toNat % 0x100 ≠ op.code.toNat) →
      decodeCommand v = .error .unassignedOpcode) ∧
    (∀ op : Opcode, v.toNat / 0x1000000 = 0 → v.toNat % 0x100 = op.code.toNat →
      decodeCommand v = .ok { op := op, a := BitVec.ofNat 8 (v.toNat / 0x100), b := BitVec.ofNat 8 (v.toNat / 0x10000) })

/-- Words written out from R104, R105 and R111 decode to what they stand for (sanity). -/
def Obligations.WrittenOutWordsDecode : Prop :=
  decode (.hostWrite 0x00C#12 0x00000000#32) = .nop 0x00#8 0x00#8 ∧
  decode (.hostWrite 0x00C#12 0x00020501#32) = .send 0x05#8 0x02#8 ∧
  decode (.hostWrite 0x00C#12 0x00FFFF02#32) = .consume 0xFF#8 0xFF#8 ∧
  decode (.hostWrite 0x00C#12 0x00000003#32) = .resetLink 0x00#8 0x00#8 ∧
  decode (.hostWrite 0x00C#12 0x00000010#32) = .kfReset 0x00#8 0x00#8 ∧
  decode (.hostWrite 0x00C#12 0x00000011#32) = .kfApply 0x00#8 0x00#8 ∧
  decode (.hostWrite 0x00C#12 0x01000001#32) = .busWrite 0x00C#12 0x01000001#32 ∧
  decode (.hostRead 0x010#12) = .busRead 0x010#12 ∧
  decode (.linkByte 0xFF#8) = .linkByte 0xFF#8

/-- Every pseudo-instruction of R111 expands to agent steps that are the operations it names, for any build's MARK. What
`encodeFrame` gives for a payload of more than 255 bytes is the model's choice (log 16). -/
def Obligations.PseudoInstructionsExpandToTheirOperations : Prop :=
  ∀ mark : Byte,
    (Pseudo.nop.expand mark).map decode = [.nop 0x00#8 0x00#8] ∧
    (∀ ty len, ((Pseudo.send ty len).expand mark).map decode = [.send ty len]) ∧
    (Pseudo.consume.expand mark).map decode = [.consume 0x00#8 0x00#8] ∧
    (Pseudo.resetLink.expand mark).map decode = [.resetLink 0x00#8 0x00#8] ∧
    (Pseudo.kfReset.expand mark).map decode = [.kfReset 0x00#8 0x00#8] ∧
    (Pseudo.kfApply.expand mark).map decode = [.kfApply 0x00#8 0x00#8] ∧
    (∀ op : Opcode, ∀ a b, ((Pseudo.cmd op.code a b).expand mark).map decode = [Command.toInstr ⟨op, a, b⟩]) ∧
    (Pseudo.linkOn.expand mark).map decode = [.busWrite 0x004#12 0x00000001#32] ∧
    (∀ i v, i ≤ 254 → ∃ off, ((Pseudo.stage i v).expand mark).map decode = [.busWrite off v] ∧
      off.toNat = 0x400 + 4 * i ∧ regAt off = .txstage i) ∧
    (∀ z ddz dt, ((Pseudo.kfIn z ddz dt).expand mark).map decode =
      [.busWrite 0x040#12 z, .busWrite 0x044#12 ddz, .busWrite 0x048#12 dt]) ∧
    (∀ ty payload, ((Pseudo.frame ty payload).expand mark).map decode =
      (encodeFrame mark ty payload).map Instr.linkByte) ∧
    (Pseudo.clrFstat.expand mark).map decode = [.busWrite 0x008#12 0x00000F00#32] ∧
    (Pseudo.clrKstat.expand mark).map decode = [.busWrite 0x04C#12 0x00000007#32]

/-! ## The step -/

/-- When the oldest input is an agent's step, the step of the block is that instruction, run whole on the state with the
input taken (R9, R20, R76). With no input the block makes no step up, and the state is held (R79). How inputs are held is
the model's choice (log 3). -/
def Obligations.StepRunsTheOldestAgentStep : Prop :=
  ∀ s : State, s.build.legal = true →
    (∀ (a : AgentStep) (rest : List Input), s.pending = .agent a :: rest →
      step s = exec (decode a) { s with pending := rest }) ∧
    (s.pending = [] → step s = .next s)

/-- Power-on reset puts every element at the value of R47 and leaves nothing written in the four buffers (R280). That reset
is one input in the list of pending ones, and that an unwritten byte is not listed, are the model's choices (logs 6, 5); the
build and the inputs still to come are no elements of the block's reset. -/
def Obligations.PowerOnResetPutsEveryElementAtItsValue : Prop :=
  ∀ (s : State) (rest : List Input), s.build.legal = true → s.pending = .powerOnReset :: rest →
    ∃ t, step s = .next t ∧
      (t.rx.index = 0#9 ∧ t.rx.expectedLength = 4#9 ∧ t.rx.dataReady = false) ∧
      (t.tx.index = 0#9 ∧ t.tx.expectedLength = 0#9) ∧
      (∀ i, Memory.written t.rx.buffer i = none ∧ Memory.written t.tx.buffer i = none ∧
        Memory.written t.stage i = none ∧ Memory.written t.snap i = none) ∧
      t.fstat = ⟨false, false, false, false⟩ ∧ t.ctrl = ⟨false, false, false⟩ ∧ t.result = ⟨0x00#8, .ok⟩ ∧
      t.kop = ⟨0#32, 0#32, 0#32⟩ ∧
      t.kf = ⟨0#32, 0#32, s.build.kfP0, 0#32, 0#32, s.build.kfP0, 0#32, 0#32⟩ ∧
      t.kstat = ⟨false, false, false⟩ ∧ t.build = s.build ∧ t.pending = rest

/-- What the window reads, and what the block does, right after reset of the default build (R36 to R44, R47, R281). That
reset means the default build is the model's choice (log 1). -/
def Obligations.RegistersAfterReset : Prop :=
  ([0x000#12, 0x004#12, 0x008#12, 0x00C#12, 0x010#12, 0x014#12].map fun off => busValue off State.reset) =
    [0x204000FF#32, 0#32, 0#32, 0#32, 0x00040000#32, 0#32] ∧
  ([0x040#12, 0x044#12, 0x048#12, 0x04C#12].map fun off => busValue off State.reset) = [0#32, 0#32, 0#32, 0#32] ∧
  ([0x050#12, 0x054#12, 0x058#12, 0x05C#12, 0x060#12, 0x064#12, 0x068#12, 0x06C#12].map
      fun off => busValue off State.reset) =
    [0#32, 0#32, 0x00010000#32, 0#32, 0#32, 0x00010000#32, 0#32, 0#32] ∧
  State.reset.irq = false ∧ State.reset.txPending = false ∧
  ∀ b, exec (.linkByte b) State.reset = .next { State.reset with out := .sent 0x00#8 }

/-- The block never traps, stops or refuses a step (R250), and no step changes the build (R5). -/
def Obligations.BlockNeverStops : Prop :=
  (∀ (i : Instr) (s : State), ∃ t, exec i s = .next t ∧ t.build = s.build ∧ t.pending = s.pending) ∧
  ∀ s : State, s.build.legal = true → ∃ t, step s = .next t ∧ t.build = s.build

/-! ## The envelope codec (40_envelope_codec.md) -/

/-- R131: the reduction mod 65536 never acts, so the checksum is the exact sum, in any width of 16 bits or more; the
largest value comes only from all bytes 0xFF, in a frame that needs CAP = 261; the bound for a given PMAX. -/
def Obligations.ChecksumIsTheExactByteSum : Prop :=
  ∀ (ty len : Byte) (payload : List Byte), payload.length = len.toNat →
    (checksum ty len payload).toNat = ty.toNat + len.toNat + (payload.map BitVec.toNat).sum ∧
    (∀ w, 16 ≤ w → (BitVec.ofNat w (ty.toNat + len.toNat + (payload.map BitVec.toNat).sum)).toNat =
      (checksum ty len payload).toNat) ∧
    ((checksum ty len payload).toNat = 0xFFFF ↔ ty = 0xFF#8 ∧ len = 0xFF#8 ∧ ∀ b ∈ payload, b = 0xFF#8) ∧
    (len = 0xFF#8 → ∀ bd : Build, bd.legal = true → (6 + len.toNat ≤ bd.cap ↔ bd.cap = 261)) ∧
    ∀ bd : Build, payload.length ≤ bd.pmax → (checksum ty len payload).toNat ≤ 255 * (2 + bd.pmax)

/-- The frame, byte by byte (R100, R102, R132). -/
def Obligations.EncodedFrameLayout : Prop :=
  ∀ (mark ty : Byte) (payload : List Byte), payload.length ≤ 255 →
    let frame := encodeFrame mark ty payload
    let n := payload.length
    let sum := ty.toNat + n + (payload.map BitVec.toNat).sum
    frame.length = 6 + n ∧ frame[0]? = some mark ∧ frame[1]? = some mark ∧ frame[2]? = some ty ∧
    frame[3]? = some (BitVec.ofNat 8 n) ∧ (∀ k, k < n → frame[4 + k]? = payload[k]?) ∧
    frame[4 + n]? = some (BitVec.ofNat 8 (sum / 256)) ∧ frame[5 + n]? = some (BitVec.ofNat 8 (sum % 256))

/-- R133, check by check, on any buffer; whatever the two mark bytes are (R134), and whatever follows the frame. -/
def Obligations.DecodeChecksInOrder : Prop :=
  ∀ buf : List Byte,
    (buf.length < 4 → decodeFrame buf = .error .framingError) ∧
    ∀ m1 m2 ty len rest, buf = m1 :: m2 :: ty :: len :: rest →
      (buf.length < 6 + len.toNat → decodeFrame buf = .error .framingError) ∧
      (∀ payload hi lo tail, rest = payload ++ hi :: lo :: tail → payload.length = len.toNat →
        (hi.toNat * 256 + lo.toNat ≠ (ty.toNat + len.toNat + (payload.map BitVec.toNat).sum) % 65536 →
          decodeFrame buf = .error .checksumError) ∧
        (hi.toNat * 256 + lo.toNat = (ty.toNat + len.toNat + (payload.map BitVec.toNat).sum) % 65536 →
          decodeFrame buf = .ok (ty, payload)))

/-- R135: the round trip, for every type and every payload of at most 255 bytes. -/
def Obligations.DecodeOfEncodeGivesTheFrameBack : Prop :=
  ∀ (mark ty : Byte) (payload : List Byte), payload.length ≤ 255 →
    decodeFrame (encodeFrame mark ty payload) = .ok (ty, payload)

/-- R136: one flipped bit in the payload or the checksum is a ChecksumError; one in TYPE is too; one in a mark is not
detected; one in LENGTH may be a FramingError. -/
def Obligations.SingleBitCorruptionIsDetected : Prop :=
  (∀ (mark ty : Byte) (payload : List Byte) (i k : Nat), payload.length ≤ 255 → k < 8 → i < 6 + payload.length →
    let frame := encodeFrame mark ty payload
    let corrupted := frame.set i (frame.getD i 0#8 ^^^ BitVec.twoPow 8 k)
    (4 ≤ i → decodeFrame corrupted = .error .checksumError) ∧
    (i = 2 → decodeFrame corrupted = .error .checksumError) ∧
    (i < 2 → decodeFrame corrupted = .ok (ty, payload))) ∧
  ∃ (mark ty : Byte) (payload : List Byte) (k : Nat), payload.length ≤ 255 ∧ k < 8 ∧
    (let frame := encodeFrame mark ty payload
     decodeFrame (frame.set 3 (frame.getD 3 0#8 ^^^ BitVec.twoPow 8 k)) = .error .framingError)

/-- R137: the checksum does not see the order of the payload bytes, nor a byte raised by what another is lowered by. -/
def Obligations.ChecksumIgnoresOrderAndCompensation : Prop :=
  (∀ (ty len : Byte) (p q : List Byte), p.Perm q → checksum ty len p = checksum ty len q) ∧
  ∀ (ty len a b a' b' : Byte) (x y z : List Byte), a.toNat + b.toNat = a'.toNat + b'.toNat →
    checksum ty len (x ++ a :: y ++ b :: z) = checksum ty len (x ++ a' :: y ++ b' :: z)

/-! ## The link framer (41_link_framer.md) -/

/-- R152: while LINK_EN is 0 an exchange sends FILL and changes nothing; and clearing or setting LINK_EN moves no cursor. -/
def Obligations.DisabledLinkChangesNothing : Prop :=
  (∀ (s : State) (b : Byte), s.ctrl.linkEn = false →
    exec (.linkByte b) s = .next { s with out := .sent s.build.fill }) ∧
  ∀ (s : State) (v : Word), ∃ t, exec (.busWrite 0x004#12 v) s = .next t ∧ t.ctrl.linkEn = v.getLsbD 0 ∧
    t.rx = s.rx ∧ t.tx = s.tx

/-- R153, and the frame of an exchange (R165): it sends the next byte of a pending frame or FILL, and touches only the
framer; of the receive buffer only the byte at `rx_index`. -/
def Obligations.EnabledExchangeTransmits : Prop :=
  ∀ (s : State) (b : Byte), s.ctrl.linkEn = true →
    ∃ t, exec (.linkByte b) s = .next t ∧
      t = { s with rx := t.rx, tx := t.tx, fstat := t.fstat, out := t.out } ∧ t.fstat.busy = s.fstat.busy ∧
      t.tx.buffer = s.tx.buffer ∧ t.tx.expectedLength = s.tx.expectedLength ∧
      (s.tx.index < s.tx.expectedLength →
        t.out = .sent (s.txByte s.tx.index.toNat) ∧ t.tx.index.toNat = s.tx.index.toNat + 1) ∧
      (¬ s.tx.index < s.tx.expectedLength → t.out = .sent s.build.fill ∧ t.tx.index = s.tx.index) ∧
      ∀ a, a ≠ s.rx.index.toNat → t.rxByte a = s.rxByte a

/-- R154: in AWAIT_MARK1 a MARK is stored and moves on, any other byte is ignored. -/
def Obligations.AwaitingTheFirstMark : Prop :=
  ∀ (s : State) (b : Byte), s.ctrl.linkEn = true → s.rx.index = 0#9 →
    ∃ t, exec (.linkByte b) s = .next t ∧ t.fstat = s.fstat ∧
      (b = s.build.mark → t.rxByte 0 = s.build.mark ∧ (∀ a, a ≠ 0 → t.rxByte a = s.rxByte a) ∧
        t.rx = { s.rx with buffer := t.rx.buffer, index := 1#9 }) ∧
      (b ≠ s.build.mark → t.rx = s.rx)

/-- R155: in AWAIT_MARK2 a MARK arms the frame, an unconsumed one is lost to OVR; any other byte is FERR and touches
neither `data_ready` nor the buffer. -/
def Obligations.AwaitingTheSecondMark : Prop :=
  ∀ (s : State) (b : Byte), s.ctrl.linkEn = true → s.rx.index = 1#9 →
    ∃ t, exec (.linkByte b) s = .next t ∧
      (b = s.build.mark → t.rxByte 1 = s.build.mark ∧ (∀ a, a ≠ 1 → t.rxByte a = s.rxByte a) ∧
        t.rx = { s.rx with buffer := t.rx.buffer, index := 2#9, dataReady := false } ∧
        t.fstat = { s.fstat with ovr := s.fstat.ovr || s.rx.dataReady }) ∧
      (b ≠ s.build.mark → t.rx = { s.rx with index := 0#9 } ∧ t.fstat = { s.fstat with ferr := true })

/-- R156: a LENGTH whose frame exceeds CAP is FERR and is not stored; any other sets the expected length to `6 + L`. -/
def Obligations.ReadingTheLength : Prop :=
  ∀ (s : State) (b : Byte), s.build.legal = true → s.ctrl.linkEn = true → s.rx.index = 3#9 →
    ∃ t, exec (.linkByte b) s = .next t ∧
      (s.build.cap < 6 + b.toNat → t.rx = { s.rx with index := 0#9, expectedLength := 4#9 } ∧
        t.fstat = { s.fstat with ferr := true }) ∧
      (6 + b.toNat ≤ s.build.cap → t.rxByte 3 = b ∧ (∀ a, a ≠ 3 → t.rxByte a = s.rxByte a) ∧
        t.rx.index = 4#9 ∧ t.rx.expectedLength.toNat = 6 + b.toNat ∧ t.rx.dataReady = s.rx.dataReady ∧
        t.fstat = s.fstat)

/-- R157, R158: READING_TYPE and READING_PAYLOAD store any byte, a MARK too, and move one position on. -/
def Obligations.TypeAndPayloadBytesAreStored : Prop :=
  ∀ (s : State) (b : Byte), s.ctrl.linkEn = true →
    s.rx.index = 2#9 ∨ (4 ≤ s.rx.index.toNat ∧ s.rx.index.toNat + 1 < s.rx.expectedLength.toNat) →
    ∃ t, exec (.linkByte b) s = .next t ∧ t.rxByte s.rx.index.toNat = b ∧
      (∀ a, a ≠ s.rx.index.toNat → t.rxByte a = s.rxByte a) ∧ t.rx.index.toNat = s.rx.index.toNat + 1 ∧
      t.rx = { s.rx with buffer := t.rx.buffer, index := t.rx.index } ∧ t.fstat = s.fstat

/-- R159: the byte that completes the frame validates it: `data_ready` when the two stored checksum bytes are the sum of
TYPE, LENGTH and payload modulo 65536, CERR otherwise; the receiver is back in AWAIT_MARK1 either way. -/
def Obligations.ValidatingTheFrame : Prop :=
  ∀ (s : State) (b : Byte), s.ctrl.linkEn = true → 4 ≤ s.rx.index.toNat →
    s.rx.index.toNat + 1 = s.rx.expectedLength.toNat →
    ∃ t, exec (.linkByte b) s = .next t ∧ t.rxByte s.rx.index.toNat = b ∧
      (∀ a, a ≠ s.rx.index.toNat → t.rxByte a = s.rxByte a) ∧ t.rx.index = 0#9 ∧ t.rx.expectedLength = 4#9 ∧
      let n := (t.rxByte 3).toNat
      let stored := (t.rxByte (4 + n)).toNat * 256 + (t.rxByte (5 + n)).toNat
      let sum := (t.rxByte 2).toNat + n + ((List.range n).map fun k => (t.rxByte (4 + k)).toNat).sum
      (stored = sum % 65536 → t.rx.dataReady = true ∧ t.fstat = s.fstat) ∧
      (stored ≠ sum % 65536 → t.rx.dataReady = s.rx.dataReady ∧ t.fstat = { s.fstat with cerr := true })

/-- The receiver's checks, a byte at a time, agree with `Decode` on the whole frame: the block delivers exactly what Decode
accepts, and what it drops is a ChecksumError (40_envelope_codec.md, introduction; R133, R159). -/
def Obligations.ReceiverAgreesWithDecode : Prop :=
  ∀ (s : State) (b : Byte), s.Inv → s.ctrl.linkEn = true → 4 ≤ s.rx.index.toNat →
    s.rx.index.toNat + 1 = s.rx.expectedLength.toNat →
    ∃ t, exec (.linkByte b) s = .next t ∧
      let frame := t.rxSlice 0 s.rx.expectedLength.toNat
      (t.rx.dataReady = true ∧ t.fstat = s.fstat ∧
        decodeFrame frame = .ok (t.rxByte 2, t.rxSlice 4 (s.rx.expectedLength.toNat - 6))) ∨
      (t.rx.dataReady = false ∧ t.fstat = { s.fstat with cerr := true } ∧
        decodeFrame frame = .error .checksumError)

/-- R256, item 1: an exchange raises at most one of FERR, CERR and OVR, and one that raises OVR arms a frame. -/
def Obligations.OneConditionPerExchange : Prop :=
  ∀ (s t : State) (b : Byte), exec (.linkByte b) s = .next t →
    (!s.fstat.ferr && t.fstat.ferr).toNat + (!s.fstat.cerr && t.fstat.cerr).toNat +
      (!s.fstat.ovr && t.fstat.ovr).toNat ≤ 1 ∧
    (s.fstat.ovr = false → t.fstat.ovr = true → t.rx.index = 2#9) ∧ s.StickyKept t

/-- R160: what an error reset changes. -/
def Obligations.ErrorResetTouchesOnlyCursorsAndFlag : Prop :=
  ∀ (s t : State) (b : Byte), s.RxCursorsOk → exec (.linkByte b) s = .next t →
    (s.fstat.ferr = false ∧ t.fstat.ferr = true) ∨ (s.fstat.cerr = false ∧ t.fstat.cerr = true) →
    t.rx.index = 0#9 ∧ t.rx.expectedLength = 4#9 ∧ t.rx.dataReady = s.rx.dataReady ∧
    (t.fstat = { s.fstat with ferr := true } ∨ t.fstat = { s.fstat with cerr := true }) ∧
    (t.fstat.ferr ≠ s.fstat.ferr → t.rx.buffer = s.rx.buffer) ∧
    ∀ a, a ≠ s.rx.index.toNat → t.rxByte a = s.rxByte a

/-- R165: the two sides of an exchange read and write disjoint state, so their order does not matter. Of the status the
receive side reads and writes only FERR, CERR and OVR. -/
def Obligations.TransmitAndReceiveShareNoState : Prop :=
  (∀ (s : State) (b : Byte), (s.receive b).advanceTx = s.advanceTx.receive b ∧ (s.receive b).txOut = s.txOut) ∧
  (∀ (s : State) (b : Byte), let t := s.receive b
    t = { s with rx := t.rx, fstat := t.fstat } ∧ t.fstat.busy = s.fstat.busy) ∧
  (∀ s : State, let t := s.advanceTx
    t = { s with tx := t.tx } ∧ t.tx.buffer = s.tx.buffer ∧ t.tx.expectedLength = s.tx.expectedLength) ∧
  (∀ (s t : State) (b : Byte), s.build = t.build → s.resets = t.resets → s.rx = t.rx → s.fstat.ferr = t.fstat.ferr →
    s.fstat.cerr = t.fstat.cerr → s.fstat.ovr = t.fstat.ovr →
    (s.receive b).rx = (t.receive b).rx ∧ (s.receive b).fstat.ferr = (t.receive b).fstat.ferr ∧
      (s.receive b).fstat.cerr = (t.receive b).fstat.cerr ∧ (s.receive b).fstat.ovr = (t.receive b).fstat.ovr) ∧
  ∀ s t : State, s.build = t.build → s.resets = t.resets → s.tx = t.tx →
    s.advanceTx.tx = t.advanceTx.tx ∧ s.txOut = t.txOut

/-- R153, R184: a frame loaded by an accepted SEND goes out in the next `6 + L` enabled exchanges, one byte each, in order,
whatever the peer sends; then nothing is pending. -/
def Obligations.SentFrameDrainsInOrder : Prop :=
  ∀ (s : State) (ty len : Byte) (received : List Byte), s.build.legal = true → s.ctrl.linkEn = true →
    s.txPending = false → 6 + len.toNat ≤ s.build.cap → received.length = 6 + len.toNat →
    ∃ t, exec (.send ty len) s = .next t ∧
      (runLink received t).2 = encodeFrame s.build.mark ty (s.stageSlice len.toNat) ∧
      (runLink received t).1.txPending = false

/-- R161, with R154 to R159: a well-formed frame whose first byte the receiver meets in AWAIT_MARK1 is received whole, even
after a false start and bytes that are no MARK. -/
def Obligations.FrameIsReceivedAfterFalseStart : Prop :=
  ∀ (s : State) (ty c : Byte) (junk payload : List Byte), s.Inv → s.ctrl.linkEn = true → s.rx.index = 0#9 →
    c ≠ s.build.mark → (∀ x ∈ junk, x ≠ s.build.mark) → payload.length ≤ s.build.pmax →
    let frame := encodeFrame s.build.mark ty payload
    let t := (runLink ([s.build.mark, c] ++ junk ++ frame) s).1
    t.rx.dataReady = true ∧ t.rx.index = 0#9 ∧ t.rxSlice 0 frame.length = frame ∧
    t.fstat = { s.fstat with ferr := true, ovr := s.fstat.ovr || s.rx.dataReady }

/-- R162: two frames with no gap are both delivered, in order, when the host consumes between the first frame's last byte
and the second one's second mark; without a CONSUME the first is lost to OVR and the second delivered. -/
def Obligations.BackToBackFramesAreDelivered : Prop :=
  ∀ (s : State) (ty1 ty2 a b : Byte) (p1 p2 before after : List Byte), s.Inv → s.ctrl.linkEn = true →
    s.rx.index = 0#9 → p1.length ≤ s.build.pmax → p2.length ≤ s.build.pmax →
    encodeFrame s.build.mark ty2 p2 = before ++ after → before.length ≤ 1 →
    let f1 := encodeFrame s.build.mark ty1 p1
    let f2 := encodeFrame s.build.mark ty2 p2
    (∃ t, exec (.consume a b) (runLink (f1 ++ before) s).1 = .next t ∧ t.result.code = .ok ∧
      (List.range f1.length).map t.snapByte = f1 ∧
      let u := (runLink after t).1
      u.rx.dataReady = true ∧ u.rxSlice 0 f2.length = f2 ∧ u.fstat = t.fstat) ∧
    let u := (runLink (f1 ++ f2) s).1
    u.rx.dataReady = true ∧ u.rxSlice 0 f2.length = f2 ∧ u.fstat.ovr = true

/-- Two blocks on one link: what one SENDs, the other receives and CONSUMEs, and Decode of its snapshot is the TYPE and the
staged payload (R153, R159, R184, R185, R135). -/
def Obligations.FrameTravelsBetweenTwoBlocks : Prop :=
  ∀ (s r : State) (ty len a b : Byte) (received : List Byte), s.Inv → r.Inv → s.build.mark = r.build.mark →
    s.ctrl.linkEn = true → r.ctrl.linkEn = true → s.txPending = false → r.rx.index = 0#9 →
    6 + len.toNat ≤ s.build.cap → 6 + len.toNat ≤ r.build.cap → received.length = 6 + len.toNat →
    ∃ t u, exec (.send ty len) s = .next t ∧ exec (.consume a b) (runLink (runLink received t).2 r).1 = .next u ∧
      u.result = ⟨0x02#8, .ok⟩ ∧
      decodeFrame ((List.range r.build.cap).map u.snapByte) = .ok (ty, s.stageSlice len.toNat)

/-! ## Invariants -/

/-- R24, R25 and the canonical form of the buffers are kept by every step of the block, from every state that has them. -/
def Obligations.EveryStepKeepsInvariant : Prop :=
  ∀ s t : State, s.Inv → step s = .next t → t.Inv

/-- The invariant holds after power-on reset of every legal build, the default one's among them. -/
def Obligations.ResetHasInvariant : Prop :=
  State.reset.Inv ∧ ∀ (bd : Build) (n : Nat) (is : List Input), bd.legal = true → (State.afterPowerOn bd n is).Inv

/-- R164: while `data_ready` is 1 the held frame stays as it was validated, through any exchange; the exchange that ends it
arms a new frame and raises OVR. So a successful CONSUME always copies a complete, checksum-valid frame. -/
def Obligations.HeldFrameIsUnchangedUntilConsumed : Prop :=
  ∀ s : State, s.Inv → s.rx.dataReady = true →
    (∀ (t : State) (b : Byte), exec (.linkByte b) s = .next t →
      t.HoldsValidFrame ∧ (∀ i, t.rxByte i = s.rxByte i) ∧
      (t.rx.dataReady = false → t.fstat.ovr = true ∧ t.rx.index = 2#9)) ∧
    ∀ a b : Byte, ∃ t, exec (.consume a b) s = .next t ∧
      t.snapByte 0 = s.build.mark ∧ t.snapByte 1 = s.build.mark ∧
      decodeFrame ((List.range s.build.cap).map t.snapByte) =
        .ok (t.snapByte 2, (List.range (t.snapByte 3).toNat).map fun k => t.snapByte (4 + k))

/-- R259, R28, R32: no operation clears a sticky bit but the host's write of 1 to it. -/
def Obligations.StickyBitsAreClearedOnlyByWritingOne : Prop :=
  ∀ (i : Instr) (s t : State), exec i s = .next t →
    let cleared (r : Reg) (n : Nat) : Prop := ∃ off v, i = .busWrite off v ∧ regAt off = r ∧ v.getLsbD n = true
    (s.fstat.ferr = true → t.fstat.ferr = false → cleared .fstat 8) ∧
    (s.fstat.cerr = true → t.fstat.cerr = false → cleared .fstat 9) ∧
    (s.fstat.ovr = true → t.fstat.ovr = false → cleared .fstat 10) ∧
    (s.fstat.busy = true → t.fstat.busy = false → cleared .fstat 11) ∧
    (s.kstat.ovf = true → t.kstat.ovf = false → cleared .kstat 0) ∧
    (s.kstat.divz = true → t.kstat.divz = false → cleared .kstat 1) ∧
    (s.kstat.dterr = true → t.kstat.dterr = false → cleared .kstat 2)

/-- R44, R27, R26: only KF_RESET and KF_APPLY change a Kalman word, only a successful CONSUME changes `snap`, only a write
to TXSTAGE changes `stage`; a command may also come as a BUS_WRITE to CMD. -/
def Obligations.OnlyTheirOwnOperationsChangeKalmanSnapAndStage : Prop :=
  ∀ (i : Instr) (s t : State), exec i s = .next t →
    let runs (op : Opcode) : Prop := ∃ c : Command, c.op = op ∧
      (i = c.toInstr ∨ ∃ off v, i = .busWrite off v ∧ regAt off = .cmd ∧ decodeCommand v = .ok c)
    (t.kf ≠ s.kf → runs .kfReset ∨ runs .kfApply) ∧
    (t.snap ≠ s.snap → runs .consume ∧ s.rx.dataReady = true ∧ t.rx.dataReady = false) ∧
    (t.stage ≠ s.stage → ∃ off v k, i = .busWrite off v ∧ regAt off = .txstage k ∧ k < s.build.pmax)

/-! ## The interrupt output -/

/-- R34, R260: `irq` is the level `(rxie ∧ data_ready) ∨ (txie ∧ ¬tx_pending)`, read in FSTAT bit 12; the sticky bits do
not drive it. -/
def Obligations.InterruptIsALevelOfState : Prop :=
  ∀ s : State,
    (s.irq = true ↔ (s.ctrl.rxie = true ∧ s.rx.dataReady = true) ∨
      (s.ctrl.txie = true ∧ ¬ s.tx.index.toNat < s.tx.expectedLength.toNat)) ∧
    (busValue 0x008#12 s).getLsbD 12 = s.irq ∧ ∀ f k, ({ s with fstat := f, kstat := k } : State).irq = s.irq

/-- R260, "cleared by": the receive source goes away only by a successful CONSUME, RESET_LINK or the arming of a new frame,
which raises OVR; the transmit-idle source only by an accepted SEND. -/
def Obligations.InterruptSourcesAreClearedByTheirCauses : Prop :=
  ∀ (i : Instr) (s t : State), exec i s = .next t →
    let runs (op : Opcode) : Prop := ∃ c : Command, c.op = op ∧
      (i = c.toInstr ∨ ∃ off v, i = .busWrite off v ∧ regAt off = .cmd ∧ decodeCommand v = .ok c)
    (s.rx.dataReady = true → t.rx.dataReady = false →
      (runs .consume ∧ t.result.code = .ok) ∨ runs .resetLink ∨
        (∃ b, i = .linkByte b ∧ t.rx.index = 2#9 ∧ t.fstat.ovr = true)) ∧
    (s.txPending = false → t.txPending = true → runs .send ∧ t.result.code = .ok)

/-! ## Bus accesses (10_state.md R36 to R46, 20_memory.md, 42_channel_commands.md R180, R181) -/

/-- R180, R75: a read gives the register's value and changes nothing; repeated, it gives the same value. -/
def Obligations.BusReadChangesNothing : Prop :=
  ∀ (s : State) (off : Offset), ∃ t, exec (.busRead off) s = .next t ∧ t.out = .readData (busValue off s) ∧
    t = { s with out := t.out } ∧ ∀ off', busValue off' t = busValue off' s

/-- R36 to R41, field by field. -/
def Obligations.FramerRegistersReadTheirFields : Prop :=
  ∀ s : State, s.build.legal = true →
    (let v := (busValue 0x000#12 s).toNat
     v % 256 = s.build.mark.toNat ∧ v / 2 ^ 8 % 256 = s.build.fill.toNat ∧ v / 2 ^ 16 % 512 = s.build.cap ∧
       v / 2 ^ 25 % 32 = s.build.fracBits ∧ v / 2 ^ 30 = 0) ∧
    (busValue 0x004#12 s).toNat = s.ctrl.linkEn.toNat + 2 * s.ctrl.rxie.toNat + 4 * s.ctrl.txie.toNat ∧
    (busValue 0x008#12 s).toNat = s.rx.dataReady.toNat + 2 * s.txPending.toNat + 4 * min s.rx.index.toNat 4 +
      2 ^ 8 * s.fstat.ferr.toNat + 2 ^ 9 * s.fstat.cerr.toNat + 2 ^ 10 * s.fstat.ovr.toNat +
      2 ^ 11 * s.fstat.busy.toNat + 2 ^ 12 * s.irq.toNat ∧
    (busValue 0x00C#12 s).toNat = s.result.op.toNat + 2 ^ 8 *
      (match s.result.code with | .ok => 0 | .nodata => 1 | .busy => 2 | .reject => 3 | .illegal => 4) ∧
    (busValue 0x010#12 s).toNat = s.rx.index.toNat + 2 ^ 16 * s.rx.expectedLength.toNat ∧
    (busValue 0x014#12 s).toNat = s.tx.index.toNat + 2 ^ 16 * s.tx.expectedLength.toNat

/-- R42, R43, R44: the Kalman registers read as their words, KSTAT as its three bits. -/
def Obligations.KalmanRegistersReadTheirWords : Prop :=
  ∀ s : State,
    ([0x040#12, 0x044#12, 0x048#12].map fun off => busValue off s) = [s.kop.kz, s.kop.kddz, s.kop.kdt] ∧
    (busValue 0x04C#12 s).toNat = s.kstat.ovf.toNat + 2 * s.kstat.divz.toNat + 4 * s.kstat.dterr.toNat ∧
    ([0x050#12, 0x054#12, 0x058#12, 0x05C#12, 0x060#12, 0x064#12, 0x068#12, 0x06C#12].map fun off => busValue off s) =
      [s.kf.x0, s.kf.x1, s.kf.p0, s.kf.p1, s.kf.p2, s.kf.p3, s.kf.z, s.kf.dz]

/-- R45, R46, R72: the byte windows, one byte a word, 0 past PMAX and CAP. -/
def Obligations.ByteWindowsReadTheirBytes : Prop :=
  ∀ (s : State) (off : Offset) (i : Nat),
    (i ≤ 254 → off.toNat = 0x400 + 4 * i →
      (busValue off s).toNat = if i < s.build.pmax then (s.stageByte i).toNat else 0) ∧
    (i ≤ 260 → off.toNat = 0x800 + 4 * i →
      (busValue off s).toNat = if i < s.build.cap then (s.snapByte i).toNat else 0)

/-- R72, R75, R181: an unmapped offset reads 0 and ignores writes; so do TXSTAGE past PMAX and SNAP past CAP (R45, R46); and
a write to a read-only register or to the SNAP window does nothing. -/
def Obligations.UnmappedAndReadOnlyOffsetsIgnoreWrites : Prop :=
  ∀ (s : State) (off : Offset) (v : Word),
    ((0x018 ≤ off.toNat ∧ off.toNat ≤ 0x03F) ∨ (0x070 ≤ off.toNat ∧ off.toNat ≤ 0x3FF) ∨
        (0x7FC ≤ off.toNat ∧ off.toNat ≤ 0x7FF) ∨ 0xC14 ≤ off.toNat ∨
        (0x400 + 4 * s.build.pmax ≤ off.toNat ∧ off.toNat ≤ 0x7FB) ∨
        (0x800 + 4 * s.build.cap ≤ off.toNat ∧ off.toNat ≤ 0xC13) →
      busValue off s = 0#32 ∧ exec (.busWrite off v) s = .next { s with out := .none }) ∧
    (off.toNat ≤ 0x003 ∨ (0x010 ≤ off.toNat ∧ off.toNat ≤ 0x017) ∨ (0x050 ≤ off.toNat ∧ off.toNat ≤ 0x06F) ∨
        (0x800 ≤ off.toNat ∧ off.toNat ≤ 0xC13) →
      exec (.busWrite off v) s = .next { s with out := .none })

/-- R73: offset bits [1:0] are ignored, in reads and in writes, a command's write among them. -/
def Obligations.OffsetLowBitsAreIgnored : Prop :=
  ∀ (s : State) (off off' : Offset) (v : Word), off.toNat / 4 = off'.toNat / 4 →
    exec (.busRead off) s = exec (.busRead off') s ∧ exec (.busWrite off v) s = exec (.busWrite off' v) s

/-- R38, R43, R181: a write to FSTAT or KSTAT clears the bits written as 1 and changes nothing else. -/
def Obligations.StatusWriteClearsTheBitsWrittenAsOne : Prop :=
  ∀ (s : State) (v : Word),
    exec (.busWrite 0x008#12 v) s = .next { s with
      fstat := ⟨s.fstat.ferr && !v.getLsbD 8, s.fstat.cerr && !v.getLsbD 9, s.fstat.ovr && !v.getLsbD 10,
        s.fstat.busy && !v.getLsbD 11⟩, out := .none } ∧
    exec (.busWrite 0x04C#12 v) s = .next { s with
      kstat := ⟨s.kstat.ovf && !v.getLsbD 0, s.kstat.divz && !v.getLsbD 1, s.kstat.dterr && !v.getLsbD 2⟩, out := .none }

/-- R37, R42, R181: a write to CTRL stores its three defined bits; one to KZ, KDDZ or KDT stores the whole word, and a read
returns it. -/
def Obligations.ControlAndOperandWritesStore : Prop :=
  ∀ (s : State) (v : Word),
    exec (.busWrite 0x004#12 v) s =
      .next { s with ctrl := ⟨v.getLsbD 0, v.getLsbD 1, v.getLsbD 2⟩, out := .none } ∧
    (∃ t, exec (.busWrite 0x040#12 v) s = .next t ∧ busValue 0x040#12 t = v ∧
      t = { s with kop := { s.kop with kz := v }, out := .none }) ∧
    (∃ t, exec (.busWrite 0x044#12 v) s = .next t ∧ busValue 0x044#12 t = v ∧
      t = { s with kop := { s.kop with kddz := v }, out := .none }) ∧
    ∃ t, exec (.busWrite 0x048#12 v) s = .next t ∧ busValue 0x048#12 t = v ∧
      t = { s with kop := { s.kop with kdt := v }, out := .none }

/-- R45, R26, R189: a write to TXSTAGE[i] stores `v[7:0]`, reads back, and changes no other byte of `stage` and nothing of
a frame being sent. -/
def Obligations.StageWriteStoresOneByte : Prop :=
  ∀ (s : State) (off : Offset) (v : Word) (i : Nat), s.build.legal = true → i < s.build.pmax →
    off.toNat = 0x400 + 4 * i →
    ∃ t, exec (.busWrite off v) s = .next t ∧ (t.stageByte i).toNat = v.toNat % 256 ∧
      (busValue off t).toNat = v.toNat % 256 ∧ (∀ j, j ≠ i → t.stageByte j = s.stageByte j) ∧
      t = { s with stage := t.stage, out := .none }

/-- R182: a write that reaches CMD, at any of its four offsets, runs the command of its word in the same step, and
`result.op` is the word's OP whatever the outcome (R33). -/
def Obligations.CmdWriteRunsItsCommand : Prop :=
  ∀ (s : State) (off : Offset) (v : Word), off.toNat / 4 = 3 →
    (∀ c, decodeCommand v = .ok c → exec (.busWrite off v) s = exec c.toInstr s) ∧
    ∃ t, exec (.busWrite off v) s = .next t ∧ t.result.op.toNat = v.toNat % 256 ∧ t.out = .none

/-! ## Channel commands (42_channel_commands.md R183 to R188) -/

/-- R187, R106, R107: an illegal command word changes only `result`, and CMD then reads code 4 and the OP. -/
def Obligations.IllegalCommandChangesOnlyResult : Prop :=
  ∀ (s : State) (off : Offset) (v : Word), off.toNat / 4 = 3 →
    v.toNat / 0x1000000 ≠ 0 ∨ v.toNat % 0x100 ∉ [0x00, 0x01, 0x02, 0x03, 0x10, 0x11] →
    ∃ t, exec (.busWrite off v) s = .next t ∧ t.result = ⟨v.setWidth 8, .illegal⟩ ∧
      t = { s with result := t.result, out := .none } ∧ (busValue 0x00C#12 t).toNat = 0x400 + v.toNat % 0x100

/-- R183: NOP sets the result to OK, its arguments ignored, and changes nothing else; CMD then reads 0. -/
def Obligations.NopOnlySetsResult : Prop :=
  ∀ (s : State) (a b : Byte), ∃ t, exec (.nop a b) s = .next t ∧ busValue 0x00C#12 t = 0#32 ∧
    t = { s with result := ⟨0x00#8, .ok⟩, out := .none }

/-- R184, R132, R188: SEND while a transmission is pending is BUSY, whatever its LENGTH (R256, item 2); one with LENGTH above
PMAX is REJECT and raises nothing; any other loads the encoded frame at the start of `tx_buffer`, keeps the bytes past it,
and sets the cursors to its ends. LINK_EN does not matter. -/
def Obligations.SendIsBusyRejectedOrLoadsTheFrame : Prop :=
  ∀ (s : State) (ty len : Byte), s.build.legal = true →
    (s.tx.index < s.tx.expectedLength → exec (.send ty len) s = .next { s with
      fstat := { s.fstat with busy := true }, result := ⟨0x01#8, .busy⟩, out := .none }) ∧
    (¬ s.tx.index < s.tx.expectedLength → s.build.cap < 6 + len.toNat →
      exec (.send ty len) s = .next { s with result := ⟨0x01#8, .reject⟩, out := .none }) ∧
    (¬ s.tx.index < s.tx.expectedLength → 6 + len.toNat ≤ s.build.cap →
      ∃ t, exec (.send ty len) s = .next t ∧ t.tx.index = 0#9 ∧ t.tx.expectedLength.toNat = 6 + len.toNat ∧
        (List.range (6 + len.toNat)).map t.txByte =
          encodeFrame s.build.mark ty ((List.range len.toNat).map s.stageByte) ∧
        (∀ k, 6 + len.toNat ≤ k → t.txByte k = s.txByte k) ∧
        t = { s with tx := t.tx, result := ⟨0x01#8, .ok⟩, out := .none })

/-- R185: CONSUME copies all of `rx_buffer` to `snap` and clears `data_ready`, or answers NODATA. -/
def Obligations.ConsumeCopiesAndClears : Prop :=
  ∀ (s : State) (a b : Byte),
    (s.rx.dataReady = true → ∃ t, exec (.consume a b) s = .next t ∧
      (∀ i, i < s.build.cap → t.snapByte i = s.rxByte i) ∧ (∀ i, s.build.cap ≤ i → t.snapByte i = s.snapByte i) ∧
      t = { s with rx := { s.rx with dataReady := false }, snap := t.snap, result := ⟨0x02#8, .ok⟩, out := .none }) ∧
    (s.rx.dataReady = false →
      exec (.consume a b) s = .next { s with result := ⟨0x02#8, .nodata⟩, out := .none })

/-- R186: RESET_LINK puts the cursors at rest and clears `data_ready`; the buffers, the sticky bits, CTRL and all else are
kept. -/
def Obligations.ResetLinkRestoresCursors : Prop :=
  ∀ (s : State) (a b : Byte), ∃ t, exec (.resetLink a b) s = .next t ∧
    t.rx = { s.rx with index := 0#9, expectedLength := 4#9, dataReady := false } ∧
    t.tx = { s.tx with index := 0#9, expectedLength := 0#9 } ∧ t.txPending = false ∧
    busValue 0x010#12 t = 0x00040000#32 ∧ busValue 0x014#12 t = 0x00000000#32 ∧
    t = { s with rx := t.rx, tx := t.tx, result := ⟨0x03#8, .ok⟩, out := .none }

/-! ## The Kalman core (43_kalman.md) -/

/-- R211, R214: fadd and fsub wrap the exact integer result to 32 bits and raise OVF exactly when it does not fit. -/
def Obligations.FixedAddAndSubWrap : Prop :=
  ∀ a b : Word,
    ((2 : Int) ^ 32 ∣ (fadd a b).val.toInt - (a.toInt + b.toInt)) ∧
    ((fadd a b).ovf = false ↔ -(2 : Int) ^ 31 ≤ a.toInt + b.toInt ∧ a.toInt + b.toInt ≤ 2 ^ 31 - 1) ∧
    ((2 : Int) ^ 32 ∣ (fsub a b).val.toInt - (a.toInt - b.toInt)) ∧
    ((fsub a b).ovf = false ↔ -(2 : Int) ^ 31 ≤ a.toInt - b.toInt ∧ a.toInt - b.toInt ≤ 2 ^ 31 - 1) ∧
    (fadd a b).divz = false ∧ (fsub a b).divz = false

/-- R212: fmul is the exact product over 2^F rounded toward minus infinity, wrapped, with OVF when it does not fit. -/
def Obligations.FixedMulFloors : Prop :=
  ∀ (F : Nat) (a b : Word), ∃ q : Int,
    q * 2 ^ F ≤ a.toInt * b.toInt ∧ a.toInt * b.toInt < (q + 1) * 2 ^ F ∧
    ((2 : Int) ^ 32 ∣ (fmul F a b).val.toInt - q) ∧
    ((fmul F a b).ovf = false ↔ -(2 : Int) ^ 31 ≤ q ∧ q ≤ 2 ^ 31 - 1) ∧ (fmul F a b).divz = false

/-- R213: fdiv by zero is 0 with DIVZ; otherwise the quotient rounded toward zero, wrapped, with OVF when it does not
fit. -/
def Obligations.FixedDivTruncates : Prop :=
  ∀ (F : Nat) (a b : Word),
    (b = 0#32 → fdiv F a b = ⟨0#32, false, true⟩) ∧
    (b ≠ 0#32 → ∃ q r : Int, a.toInt * 2 ^ F = q * b.toInt + r ∧ r.natAbs < b.toInt.natAbs ∧ 0 ≤ r * a.toInt ∧
      ((2 : Int) ^ 32 ∣ (fdiv F a b).val.toInt - q) ∧
      ((fdiv F a b).ovf = false ↔ -(2 : Int) ^ 31 ≤ q ∧ q ≤ 2 ^ 31 - 1) ∧ (fdiv F a b).divz = false)

/-- R217, R47: KF_RESET leaves the Kalman state that power-on reset leaves; the sticky bits and the operands are kept. -/
def Obligations.KfResetRestoresTheInitialEstimate : Prop :=
  ∀ (s : State) (a b : Byte), ∃ t, exec (.kfReset a b) s = .next t ∧
    t.kf = ⟨0#32, 0#32, s.build.kfP0, 0#32, 0#32, s.build.kfP0, 0#32, 0#32⟩ ∧
    (∀ n is, t.kf = (State.afterPowerOn s.build n is).kf) ∧
    t = { s with kf := t.kf, result := ⟨0x10#8, .ok⟩, out := .none }

/-- R219: KF_APPLY with `sext_32(kdt) ≤ 0` changes no Kalman word, raises DTERR and is REJECT. -/
def Obligations.KfApplyRejectsNonPositiveDt : Prop :=
  ∀ (s : State) (a b : Byte), s.kop.kdt = 0#32 ∨ s.kop.kdt.msb = true →
    exec (.kfApply a b) s = .next { s with
      kstat := { s.kstat with dterr := true }, result := ⟨0x11#8, .reject⟩, out := .none }

/-- R218: an accepted KF_APPLY, its 29 primitives one by one in the rule's order: the state words, and the sticky bits that
some primitive raised (R213, R214); the result is OK whatever was raised (R258). -/
def Obligations.KfApplyRunsItsPrimitives : Prop :=
  ∀ (s : State) (a b : Byte), s.kop.kdt ≠ 0#32 → s.kop.kdt.msb = false →
    let F := s.build.fracBits
    let dt := s.kop.kdt
    let v1 := fmul F dt s.kf.x1
    let x0m := fadd s.kf.x0 v1.val
    let v2 := fmul F dt s.kop.kddz
    let x1m := fadd s.kf.x1 v2.val
    let t2 := fmul F dt s.kf.p3
    let v3 := fadd s.kf.p1 s.kf.p2
    let t3 := fadd v3.val t2.val
    let v4 := fmul F dt t3.val
    let v5 := fadd s.kf.p0 v4.val
    let p0m := fadd v5.val s.build.kfQ
    let p1m := fadd s.kf.p1 t2.val
    let p2m := fadd s.kf.p2 t2.val
    let p3m := fadd s.kf.p3 s.build.kfQ
    let sm := fadd p0m.val s.build.kfR
    let k0 := fdiv F p0m.val sm.val
    let k1 := fdiv F p2m.val sm.val
    let r := fsub s.kop.kz x0m.val
    let v6 := fmul F k0.val r.val
    let x0 := fadd x0m.val v6.val
    let v7 := fmul F k1.val r.val
    let x1 := fadd x1m.val v7.val
    let v8 := fmul F k0.val p0m.val
    let p0 := fsub p0m.val v8.val
    let v9 := fmul F k0.val p1m.val
    let p1 := fsub p1m.val v9.val
    let v10 := fmul F k1.val p0m.val
    let p2 := fsub p2m.val v10.val
    let v11 := fmul F k1.val p1m.val
    let p3 := fsub p3m.val v11.val
    let primitives := [v1, x0m, v2, x1m, t2, v3, t3, v4, v5, p0m, p1m, p2m, p3m, sm, k0, k1, r, v6, x0, v7, x1, v8, p0,
      v9, p1, v10, p2, v11, p3]
    exec (.kfApply a b) s = .next { s with
      kf := ⟨x0.val, x1.val, p0.val, p1.val, p2.val, p3.val, s.kop.kz, x1.val⟩
      kstat := { s.kstat with
        ovf := s.kstat.ovf || primitives.any Fx.ovf
        divz := s.kstat.divz || primitives.any Fx.divz }
      result := ⟨0x11#8, .ok⟩
      out := .none }

/-- R218, "zero divisor": with `s = 0` the gain is 0, DIVZ is raised, and the update adds nothing: state and covariance are
the predicted ones. -/
def Obligations.KfApplyWithZeroDivisorKeepsThePrediction : Prop :=
  ∀ (s : State) (a b : Byte), 0 < s.kop.kdt.toInt →
    let m := kfPredict s.build s.kf s.kop
    m.p0m.val + s.build.kfR = 0#32 →
    ∃ t, exec (.kfApply a b) s = .next t ∧ t.result = ⟨0x11#8, .ok⟩ ∧ t.kstat.divz = true ∧
      t.kf = ⟨m.x0m.val, m.x1m.val, m.p0m.val, m.p1m.val, m.p2m.val, m.p3m.val, s.kop.kz, m.x1m.val⟩
end

