-- ==== Sys2Proof/Laws/Codec.lean ====
section
/-!
SUPPORT. The laws of the envelope codec: the checksum's bound, its two bytes, and the frame's length and parts.
-/

namespace Sys2Proof.Machine

theorem sum_toNat_le (l : List Byte) : (l.map BitVec.toNat).sum ≤ 255 * l.length := by
  induction l with
  | nil => simp
  | cons b l ih =>
    have := b.isLt
    simp only [List.map_cons, List.sum_cons, List.length_cons]
    omega

/-- The reduction mod 65536 never acts on a frame's bytes (R131). -/
theorem checksum_toNat {ty len : Byte} {payload : List Byte} (h : payload.length ≤ 255) :
    (checksum ty len payload).toNat = ty.toNat + len.toNat + (payload.map BitVec.toNat).sum := by
  have h1 := sum_toNat_le payload
  have h2 := ty.isLt
  have h3 := len.isLt
  simp only [checksum, BitVec.toNat_ofNat]
  omega

theorem sumHi_toNat (cs : Sum16) : (sumHi cs).toNat = cs.toNat / 256 := by
  have := cs.isLt
  simp only [sumHi, BitVec.extractLsb'_toNat, Nat.shiftRight_eq_div_pow]
  omega

theorem sumLo_toNat (cs : Sum16) : (sumLo cs).toNat = cs.toNat % 256 := by
  simp [sumLo, BitVec.extractLsb'_toNat]

theorem join16_toNat (hi lo : Byte) : (join16 hi lo).toNat = hi.toNat * 256 + lo.toNat := by
  have h := lo.isLt
  change (BitVec.append hi lo).toNat = _
  rw [BitVec.append_eq, BitVec.toNat_append, ← Nat.shiftLeft_add_eq_or_of_lt h, Nat.shiftLeft_eq]

/-- The two checksum bytes hold the checksum. -/
theorem join16_sum (cs : Sum16) : join16 (sumHi cs) (sumLo cs) = cs := by
  apply BitVec.eq_of_toNat_eq
  rw [join16_toNat, sumHi_toNat, sumLo_toNat]
  omega

/-- Two checksum bytes match a sum exactly when they are its two bytes. -/
theorem join16_eq_iff (hi lo : Byte) (cs : Sum16) : join16 hi lo = cs ↔ hi.toNat * 256 + lo.toNat = cs.toNat := by
  rw [← BitVec.toNat_inj, join16_toNat]

theorem length_encodeFrame (mark ty : Byte) (payload : List Byte) :
    (encodeFrame mark ty payload).length = 6 + payload.length := by
  simp [encodeFrame]
  omega

/-- `Decode` on a buffer laid out as a frame and bytes past it, whatever the marks are (R133, R134). -/
theorem decodeFrame_layout (m1 m2 ty len hi lo : Byte) (payload tail : List Byte) (h : payload.length = len.toNat) :
    decodeFrame (m1 :: m2 :: ty :: len :: (payload ++ hi :: lo :: tail)) =
      if join16 hi lo = checksum ty len payload then .ok (ty, payload) else .error .checksumError := by
  have e1 : (4 + len.toNat) = len.toNat + 4 := by omega
  have e2 : (5 + len.toNat) = len.toNat + 1 + 4 := by omega
  have g1 : (payload ++ hi :: lo :: tail).getD len.toNat 0#8 = hi := by simp [← h]
  have g2 : (payload ++ hi :: lo :: tail).getD (len.toNat + 1) 0#8 = lo := by simp [← h]
  unfold decodeFrame
  rw [if_neg (by simp)]
  simp only [List.getD_cons_succ, List.getD_cons_zero, List.drop_succ_cons, List.drop_zero]
  rw [if_neg (by simp; omega), e1, e2]
  simp only [List.getD_cons_succ, g1, g2]
  rw [← h, List.take_left' rfl]

/-- Rebuild a list from its first four entries. -/
theorem eq_four_of_length {l : List Byte} (h : 4 ≤ l.length) : ∃ a b c d r, l = a :: b :: c :: d :: r := by
  match l, h with
  | a :: b :: c :: d :: r, _ => exact ⟨a, b, c, d, r, rfl⟩

end Sys2Proof.Machine
end

