-- ==== Sys2Proof/Laws/Memory.lean ====
section
/-!
SUPPORT. The laws of byte memories: a read after a write, and the canonical form that every operation keeps.
-/

namespace Sys2Proof.Machine.Memory

@[simp] theorem written_nil (i : Nat) : written [] i = none := rfl

@[simp] theorem written_cons (c : Host.Cell) (m : Memory) (i : Nat) :
    written (c :: m) i = if c.1 = i then some c.2 else written m i := rfl

/-- A byte that has just been written reads back, and every other index is as before. -/
theorem written_write (m : Memory) (i : Nat) (v : Byte) (j : Nat) :
    written (write m i v) j = if i = j then some v else written m j := by
  induction m with
  | nil => simp [write]
  | cons c m ih =>
    unfold write
    split
    · simp
    · split
      · next heq =>
        subst heq
        by_cases hj : c.1 = j <;> simp [hj]
      · by_cases hj : c.1 = j
        · rw [written_cons, if_pos hj, if_neg (by omega), written_cons, if_pos hj]
        · rw [written_cons, if_neg hj, ih, written_cons, if_neg hj]

theorem read_write (free : Nat → Byte) (m : Memory) (i : Nat) (v : Byte) (j : Nat) :
    read free (write m i v) j = if i = j then v else read free m j := by
  unfold read
  rw [written_write]
  split <;> simp

theorem mem_write {m : Memory} {i : Nat} {v : Byte} {c : Host.Cell} (hc : c ∈ write m i v) : c = (i, v) ∨ c ∈ m := by
  induction m with
  | nil => simpa [write] using hc
  | cons d m ih =>
    unfold write at hc
    split at hc
    · simpa using hc
    · split at hc
      · rcases List.mem_cons.mp hc with h | h
        · exact .inl h
        · exact .inr (List.mem_cons_of_mem _ h)
      · rcases List.mem_cons.mp hc with h | h
        · exact .inr (by simp [h])
        · rcases ih h with h | h
          · exact .inl h
          · exact .inr (List.mem_cons_of_mem _ h)

/-- A write keeps the canonical form. -/
theorem write_wf {m : Memory} (h : wf m) (i : Nat) (v : Byte) : wf (write m i v) := by
  induction m with
  | nil => simp [write]
  | cons c m ih =>
    obtain ⟨hc, hm⟩ := List.pairwise_cons.mp h
    unfold write
    split
    · next hi =>
      refine List.pairwise_cons.mpr ⟨fun d hd => ?_, h⟩
      rcases List.mem_cons.mp hd with rfl | hd
      · exact hi
      · exact lt_trans hi (hc d hd)
    · split
      · next heq => exact List.pairwise_cons.mpr ⟨fun d hd => heq ▸ hc d hd, hm⟩
      · refine List.pairwise_cons.mpr ⟨fun d hd => ?_, ih hm⟩
        rcases mem_write hd with rfl | hd
        · show c.1 < i
          omega
        · exact hc d hd

/-- A write inside a buffer lists no cell outside it. -/
theorem write_within {n : Nat} {m : Memory} (h : within n m) {i : Nat} (hi : i < n) (v : Byte) :
    within n (write m i v) := by
  intro c hc
  rcases mem_write hc with rfl | hc
  · exact hi
  · exact h c hc

theorem writeBytes_wf {m : Memory} (h : wf m) (i : Nat) (vs : List Byte) : wf (writeBytes m i vs) := by
  induction vs generalizing m i with
  | nil => exact h
  | cons v vs ih => exact ih (write_wf h i v) (i + 1)

theorem writeBytes_within {n : Nat} {m : Memory} (h : within n m) {i : Nat} {vs : List Byte} (hi : i + vs.length ≤ n) :
    within n (writeBytes m i vs) := by
  induction vs generalizing m i with
  | nil => exact h
  | cons v vs ih =>
    rw [List.length_cons] at hi
    exact ih (write_within h (by omega) v) (by omega)

/-- After storing bytes from index `i` on, those indices read as the bytes and every other one as before. -/
theorem read_writeBytes (free : Nat → Byte) (m : Memory) (i : Nat) (vs : List Byte) (j : Nat) :
    read free (writeBytes m i vs) j = if i ≤ j ∧ j < i + vs.length then vs.getD (j - i) 0#8 else read free m j := by
  induction vs generalizing m i with
  | nil =>
    rw [if_neg (by simp)]
    rfl
  | cons v vs ih =>
    show read free (writeBytes (write m i v) (i + 1) vs) j = _
    rw [ih, read_write, List.length_cons]
    by_cases h1 : i + 1 ≤ j ∧ j < i + 1 + vs.length
    · rw [if_pos h1, if_pos (by omega), show j - i = (j - (i + 1)) + 1 by omega, List.getD_cons_succ]
    · rw [if_neg h1]
      by_cases h2 : i = j
      · rw [if_pos h2, if_pos (by omega)]
        subst h2
        simp
      · rw [if_neg h2, if_neg (by omega)]

/-- Two memories in canonical form that hold the same bytes at the same indices are equal as data. -/
theorem ext_of_written {m n : Memory} (hm : wf m) (hn : wf n) (h : ∀ i, written m i = written n i) : m = n := by
  have low : ∀ (c : Host.Cell) (l : Memory), wf (c :: l) → ∀ k, k < c.1 → written (c :: l) k = none := by
    intro c l hl
    induction l generalizing c with
    | nil => intro k hk; simp; omega
    | cons d l ih =>
      intro k hk
      obtain ⟨hc, hl⟩ := List.pairwise_cons.mp hl
      rw [written_cons, if_neg (by omega)]
      exact ih d hl k (lt_trans hk (hc d (by simp)))
  induction m generalizing n with
  | nil =>
    cases n with
    | nil => rfl
    | cons d n => simpa using h d.1
  | cons c m ih =>
    cases n with
    | nil => simpa using h c.1
    | cons d n =>
      have hcd : c.1 = d.1 := by
        rcases lt_trichotomy c.1 d.1 with hlt | heq | hgt
        · have := h c.1
          rw [low d n hn _ hlt] at this
          simp at this
        · exact heq
        · have := h d.1
          rw [low c m hm _ hgt] at this
          simp at this
      have hv : c.2 = d.2 := by simpa [hcd] using h d.1
      obtain ⟨hc, hm'⟩ := List.pairwise_cons.mp hm
      obtain ⟨hd, hn'⟩ := List.pairwise_cons.mp hn
      rw [Prod.ext hcd hv, ih hm' hn' fun i => ?_]
      by_cases hi : i ≤ c.1
      · have e : ∀ (l : Memory) (a : Nat), (∀ e ∈ l, a < e.1) → i ≤ a → written l i = none := by
          intro l a hl hia
          induction l with
          | nil => rfl
          | cons e l ihl =>
            have := hl e (by simp)
            rw [written_cons, if_neg (by omega)]
            exact ihl fun x hx => hl x (by simp [hx])
        rw [e m c.1 hc hi, e n d.1 hd (hcd ▸ hi)]
      · have := h i
        rwa [written_cons, if_neg (by omega), written_cons, if_neg (by omega)] at this

end Sys2Proof.Machine.Memory
end

