-- ==== Sys2Proof/Laws/State.lean ====
section
/-!
SUPPORT. One lemma for each field of State and each named update of it, true by rfl; and what the shared operations that
touch one part of the state leave of the others.
-/

namespace Sys2Proof.Machine

namespace State

@[simp] theorem setRx_build (s : State) (r : Rx) : (s.setRx r).build = s.build := rfl
@[simp] theorem setRx_rx (s : State) (r : Rx) : (s.setRx r).rx = r := rfl
@[simp] theorem setRx_tx (s : State) (r : Rx) : (s.setRx r).tx = s.tx := rfl
@[simp] theorem setRx_stage (s : State) (r : Rx) : (s.setRx r).stage = s.stage := rfl
@[simp] theorem setRx_snap (s : State) (r : Rx) : (s.setRx r).snap = s.snap := rfl
@[simp] theorem setRx_fstat (s : State) (r : Rx) : (s.setRx r).fstat = s.fstat := rfl
@[simp] theorem setRx_ctrl (s : State) (r : Rx) : (s.setRx r).ctrl = s.ctrl := rfl
@[simp] theorem setRx_kop (s : State) (r : Rx) : (s.setRx r).kop = s.kop := rfl
@[simp] theorem setRx_kf (s : State) (r : Rx) : (s.setRx r).kf = s.kf := rfl
@[simp] theorem setRx_kstat (s : State) (r : Rx) : (s.setRx r).kstat = s.kstat := rfl
@[simp] theorem setRx_result (s : State) (r : Rx) : (s.setRx r).result = s.result := rfl
@[simp] theorem setRx_resets (s : State) (r : Rx) : (s.setRx r).resets = s.resets := rfl
@[simp] theorem setRx_out (s : State) (r : Rx) : (s.setRx r).out = s.out := rfl
@[simp] theorem setRx_pending (s : State) (r : Rx) : (s.setRx r).pending = s.pending := rfl

@[simp] theorem setTx_build (s : State) (t : Tx) : (s.setTx t).build = s.build := rfl
@[simp] theorem setTx_rx (s : State) (t : Tx) : (s.setTx t).rx = s.rx := rfl
@[simp] theorem setTx_tx (s : State) (t : Tx) : (s.setTx t).tx = t := rfl
@[simp] theorem setTx_stage (s : State) (t : Tx) : (s.setTx t).stage = s.stage := rfl
@[simp] theorem setTx_snap (s : State) (t : Tx) : (s.setTx t).snap = s.snap := rfl
@[simp] theorem setTx_fstat (s : State) (t : Tx) : (s.setTx t).fstat = s.fstat := rfl
@[simp] theorem setTx_ctrl (s : State) (t : Tx) : (s.setTx t).ctrl = s.ctrl := rfl
@[simp] theorem setTx_kop (s : State) (t : Tx) : (s.setTx t).kop = s.kop := rfl
@[simp] theorem setTx_kf (s : State) (t : Tx) : (s.setTx t).kf = s.kf := rfl
@[simp] theorem setTx_kstat (s : State) (t : Tx) : (s.setTx t).kstat = s.kstat := rfl
@[simp] theorem setTx_result (s : State) (t : Tx) : (s.setTx t).result = s.result := rfl
@[simp] theorem setTx_resets (s : State) (t : Tx) : (s.setTx t).resets = s.resets := rfl
@[simp] theorem setTx_out (s : State) (t : Tx) : (s.setTx t).out = s.out := rfl
@[simp] theorem setTx_pending (s : State) (t : Tx) : (s.setTx t).pending = s.pending := rfl

@[simp] theorem setStage_build (s : State) (m : Memory) : (s.setStage m).build = s.build := rfl
@[simp] theorem setStage_rx (s : State) (m : Memory) : (s.setStage m).rx = s.rx := rfl
@[simp] theorem setStage_tx (s : State) (m : Memory) : (s.setStage m).tx = s.tx := rfl
@[simp] theorem setStage_stage (s : State) (m : Memory) : (s.setStage m).stage = m := rfl
@[simp] theorem setStage_snap (s : State) (m : Memory) : (s.setStage m).snap = s.snap := rfl
@[simp] theorem setStage_fstat (s : State) (m : Memory) : (s.setStage m).fstat = s.fstat := rfl
@[simp] theorem setStage_ctrl (s : State) (m : Memory) : (s.setStage m).ctrl = s.ctrl := rfl
@[simp] theorem setStage_kop (s : State) (m : Memory) : (s.setStage m).kop = s.kop := rfl
@[simp] theorem setStage_kf (s : State) (m : Memory) : (s.setStage m).kf = s.kf := rfl
@[simp] theorem setStage_kstat (s : State) (m : Memory) : (s.setStage m).kstat = s.kstat := rfl
@[simp] theorem setStage_result (s : State) (m : Memory) : (s.setStage m).result = s.result := rfl
@[simp] theorem setStage_resets (s : State) (m : Memory) : (s.setStage m).resets = s.resets := rfl
@[simp] theorem setStage_out (s : State) (m : Memory) : (s.setStage m).out = s.out := rfl
@[simp] theorem setStage_pending (s : State) (m : Memory) : (s.setStage m).pending = s.pending := rfl

@[simp] theorem setSnap_build (s : State) (m : Memory) : (s.setSnap m).build = s.build := rfl
@[simp] theorem setSnap_rx (s : State) (m : Memory) : (s.setSnap m).rx = s.rx := rfl
@[simp] theorem setSnap_tx (s : State) (m : Memory) : (s.setSnap m).tx = s.tx := rfl
@[simp] theorem setSnap_stage (s : State) (m : Memory) : (s.setSnap m).stage = s.stage := rfl
@[simp] theorem setSnap_snap (s : State) (m : Memory) : (s.setSnap m).snap = m := rfl
@[simp] theorem setSnap_fstat (s : State) (m : Memory) : (s.setSnap m).fstat = s.fstat := rfl
@[simp] theorem setSnap_ctrl (s : State) (m : Memory) : (s.setSnap m).ctrl = s.ctrl := rfl
@[simp] theorem setSnap_kop (s : State) (m : Memory) : (s.setSnap m).kop = s.kop := rfl
@[simp] theorem setSnap_kf (s : State) (m : Memory) : (s.setSnap m).kf = s.kf := rfl
@[simp] theorem setSnap_kstat (s : State) (m : Memory) : (s.setSnap m).kstat = s.kstat := rfl
@[simp] theorem setSnap_result (s : State) (m : Memory) : (s.setSnap m).result = s.result := rfl
@[simp] theorem setSnap_resets (s : State) (m : Memory) : (s.setSnap m).resets = s.resets := rfl
@[simp] theorem setSnap_out (s : State) (m : Memory) : (s.setSnap m).out = s.out := rfl
@[simp] theorem setSnap_pending (s : State) (m : Memory) : (s.setSnap m).pending = s.pending := rfl

@[simp] theorem setFstat_build (s : State) (f : FramerStatus) : (s.setFstat f).build = s.build := rfl
@[simp] theorem setFstat_rx (s : State) (f : FramerStatus) : (s.setFstat f).rx = s.rx := rfl
@[simp] theorem setFstat_tx (s : State) (f : FramerStatus) : (s.setFstat f).tx = s.tx := rfl
@[simp] theorem setFstat_stage (s : State) (f : FramerStatus) : (s.setFstat f).stage = s.stage := rfl
@[simp] theorem setFstat_snap (s : State) (f : FramerStatus) : (s.setFstat f).snap = s.snap := rfl
@[simp] theorem setFstat_fstat (s : State) (f : FramerStatus) : (s.setFstat f).fstat = f := rfl
@[simp] theorem setFstat_ctrl (s : State) (f : FramerStatus) : (s.setFstat f).ctrl = s.ctrl := rfl
@[simp] theorem setFstat_kop (s : State) (f : FramerStatus) : (s.setFstat f).kop = s.kop := rfl
@[simp] theorem setFstat_kf (s : State) (f : FramerStatus) : (s.setFstat f).kf = s.kf := rfl
@[simp] theorem setFstat_kstat (s : State) (f : FramerStatus) : (s.setFstat f).kstat = s.kstat := rfl
@[simp] theorem setFstat_result (s : State) (f : FramerStatus) : (s.setFstat f).result = s.result := rfl
@[simp] theorem setFstat_resets (s : State) (f : FramerStatus) : (s.setFstat f).resets = s.resets := rfl
@[simp] theorem setFstat_out (s : State) (f : FramerStatus) : (s.setFstat f).out = s.out := rfl
@[simp] theorem setFstat_pending (s : State) (f : FramerStatus) : (s.setFstat f).pending = s.pending := rfl

@[simp] theorem setCtrl_build (s : State) (c : Control) : (s.setCtrl c).build = s.build := rfl
@[simp] theorem setCtrl_rx (s : State) (c : Control) : (s.setCtrl c).rx = s.rx := rfl
@[simp] theorem setCtrl_tx (s : State) (c : Control) : (s.setCtrl c).tx = s.tx := rfl
@[simp] theorem setCtrl_stage (s : State) (c : Control) : (s.setCtrl c).stage = s.stage := rfl
@[simp] theorem setCtrl_snap (s : State) (c : Control) : (s.setCtrl c).snap = s.snap := rfl
@[simp] theorem setCtrl_fstat (s : State) (c : Control) : (s.setCtrl c).fstat = s.fstat := rfl
@[simp] theorem setCtrl_ctrl (s : State) (c : Control) : (s.setCtrl c).ctrl = c := rfl
@[simp] theorem setCtrl_kop (s : State) (c : Control) : (s.setCtrl c).kop = s.kop := rfl
@[simp] theorem setCtrl_kf (s : State) (c : Control) : (s.setCtrl c).kf = s.kf := rfl
@[simp] theorem setCtrl_kstat (s : State) (c : Control) : (s.setCtrl c).kstat = s.kstat := rfl
@[simp] theorem setCtrl_result (s : State) (c : Control) : (s.setCtrl c).result = s.result := rfl
@[simp] theorem setCtrl_resets (s : State) (c : Control) : (s.setCtrl c).resets = s.resets := rfl
@[simp] theorem setCtrl_out (s : State) (c : Control) : (s.setCtrl c).out = s.out := rfl
@[simp] theorem setCtrl_pending (s : State) (c : Control) : (s.setCtrl c).pending = s.pending := rfl

@[simp] theorem setKop_build (s : State) (k : KalmanOperands) : (s.setKop k).build = s.build := rfl
@[simp] theorem setKop_rx (s : State) (k : KalmanOperands) : (s.setKop k).rx = s.rx := rfl
@[simp] theorem setKop_tx (s : State) (k : KalmanOperands) : (s.setKop k).tx = s.tx := rfl
@[simp] theorem setKop_stage (s : State) (k : KalmanOperands) : (s.setKop k).stage = s.stage := rfl
@[simp] theorem setKop_snap (s : State) (k : KalmanOperands) : (s.setKop k).snap = s.snap := rfl
@[simp] theorem setKop_fstat (s : State) (k : KalmanOperands) : (s.setKop k).fstat = s.fstat := rfl
@[simp] theorem setKop_ctrl (s : State) (k : KalmanOperands) : (s.setKop k).ctrl = s.ctrl := rfl
@[simp] theorem setKop_kop (s : State) (k : KalmanOperands) : (s.setKop k).kop = k := rfl
@[simp] theorem setKop_kf (s : State) (k : KalmanOperands) : (s.setKop k).kf = s.kf := rfl
@[simp] theorem setKop_kstat (s : State) (k : KalmanOperands) : (s.setKop k).kstat = s.kstat := rfl
@[simp] theorem setKop_result (s : State) (k : KalmanOperands) : (s.setKop k).result = s.result := rfl
@[simp] theorem setKop_resets (s : State) (k : KalmanOperands) : (s.setKop k).resets = s.resets := rfl
@[simp] theorem setKop_out (s : State) (k : KalmanOperands) : (s.setKop k).out = s.out := rfl
@[simp] theorem setKop_pending (s : State) (k : KalmanOperands) : (s.setKop k).pending = s.pending := rfl

@[simp] theorem setKf_build (s : State) (k : Kalman) : (s.setKf k).build = s.build := rfl
@[simp] theorem setKf_rx (s : State) (k : Kalman) : (s.setKf k).rx = s.rx := rfl
@[simp] theorem setKf_tx (s : State) (k : Kalman) : (s.setKf k).tx = s.tx := rfl
@[simp] theorem setKf_stage (s : State) (k : Kalman) : (s.setKf k).stage = s.stage := rfl
@[simp] theorem setKf_snap (s : State) (k : Kalman) : (s.setKf k).snap = s.snap := rfl
@[simp] theorem setKf_fstat (s : State) (k : Kalman) : (s.setKf k).fstat = s.fstat := rfl
@[simp] theorem setKf_ctrl (s : State) (k : Kalman) : (s.setKf k).ctrl = s.ctrl := rfl
@[simp] theorem setKf_kop (s : State) (k : Kalman) : (s.setKf k).kop = s.kop := rfl
@[simp] theorem setKf_kf (s : State) (k : Kalman) : (s.setKf k).kf = k := rfl
@[simp] theorem setKf_kstat (s : State) (k : Kalman) : (s.setKf k).kstat = s.kstat := rfl
@[simp] theorem setKf_result (s : State) (k : Kalman) : (s.setKf k).result = s.result := rfl
@[simp] theorem setKf_resets (s : State) (k : Kalman) : (s.setKf k).resets = s.resets := rfl
@[simp] theorem setKf_out (s : State) (k : Kalman) : (s.setKf k).out = s.out := rfl
@[simp] theorem setKf_pending (s : State) (k : Kalman) : (s.setKf k).pending = s.pending := rfl

@[simp] theorem setKstat_build (s : State) (k : KalmanStatus) : (s.setKstat k).build = s.build := rfl
@[simp] theorem setKstat_rx (s : State) (k : KalmanStatus) : (s.setKstat k).rx = s.rx := rfl
@[simp] theorem setKstat_tx (s : State) (k : KalmanStatus) : (s.setKstat k).tx = s.tx := rfl
@[simp] theorem setKstat_stage (s : State) (k : KalmanStatus) : (s.setKstat k).stage = s.stage := rfl
@[simp] theorem setKstat_snap (s : State) (k : KalmanStatus) : (s.setKstat k).snap = s.snap := rfl
@[simp] theorem setKstat_fstat (s : State) (k : KalmanStatus) : (s.setKstat k).fstat = s.fstat := rfl
@[simp] theorem setKstat_ctrl (s : State) (k : KalmanStatus) : (s.setKstat k).ctrl = s.ctrl := rfl
@[simp] theorem setKstat_kop (s : State) (k : KalmanStatus) : (s.setKstat k).kop = s.kop := rfl
@[simp] theorem setKstat_kf (s : State) (k : KalmanStatus) : (s.setKstat k).kf = s.kf := rfl
@[simp] theorem setKstat_kstat (s : State) (k : KalmanStatus) : (s.setKstat k).kstat = k := rfl
@[simp] theorem setKstat_result (s : State) (k : KalmanStatus) : (s.setKstat k).result = s.result := rfl
@[simp] theorem setKstat_resets (s : State) (k : KalmanStatus) : (s.setKstat k).resets = s.resets := rfl
@[simp] theorem setKstat_out (s : State) (k : KalmanStatus) : (s.setKstat k).out = s.out := rfl
@[simp] theorem setKstat_pending (s : State) (k : KalmanStatus) : (s.setKstat k).pending = s.pending := rfl

@[simp] theorem setOut_build (s : State) (o : StepOutput) : (s.setOut o).build = s.build := rfl
@[simp] theorem setOut_rx (s : State) (o : StepOutput) : (s.setOut o).rx = s.rx := rfl
@[simp] theorem setOut_tx (s : State) (o : StepOutput) : (s.setOut o).tx = s.tx := rfl
@[simp] theorem setOut_stage (s : State) (o : StepOutput) : (s.setOut o).stage = s.stage := rfl
@[simp] theorem setOut_snap (s : State) (o : StepOutput) : (s.setOut o).snap = s.snap := rfl
@[simp] theorem setOut_fstat (s : State) (o : StepOutput) : (s.setOut o).fstat = s.fstat := rfl
@[simp] theorem setOut_ctrl (s : State) (o : StepOutput) : (s.setOut o).ctrl = s.ctrl := rfl
@[simp] theorem setOut_kop (s : State) (o : StepOutput) : (s.setOut o).kop = s.kop := rfl
@[simp] theorem setOut_kf (s : State) (o : StepOutput) : (s.setOut o).kf = s.kf := rfl
@[simp] theorem setOut_kstat (s : State) (o : StepOutput) : (s.setOut o).kstat = s.kstat := rfl
@[simp] theorem setOut_result (s : State) (o : StepOutput) : (s.setOut o).result = s.result := rfl
@[simp] theorem setOut_resets (s : State) (o : StepOutput) : (s.setOut o).resets = s.resets := rfl
@[simp] theorem setOut_out (s : State) (o : StepOutput) : (s.setOut o).out = o := rfl
@[simp] theorem setOut_pending (s : State) (o : StepOutput) : (s.setOut o).pending = s.pending := rfl

@[simp] theorem setPending_build (s : State) (is : (List Input)) : (s.setPending is).build = s.build := rfl
@[simp] theorem setPending_rx (s : State) (is : (List Input)) : (s.setPending is).rx = s.rx := rfl
@[simp] theorem setPending_tx (s : State) (is : (List Input)) : (s.setPending is).tx = s.tx := rfl
@[simp] theorem setPending_stage (s : State) (is : (List Input)) : (s.setPending is).stage = s.stage := rfl
@[simp] theorem setPending_snap (s : State) (is : (List Input)) : (s.setPending is).snap = s.snap := rfl
@[simp] theorem setPending_fstat (s : State) (is : (List Input)) : (s.setPending is).fstat = s.fstat := rfl
@[simp] theorem setPending_ctrl (s : State) (is : (List Input)) : (s.setPending is).ctrl = s.ctrl := rfl
@[simp] theorem setPending_kop (s : State) (is : (List Input)) : (s.setPending is).kop = s.kop := rfl
@[simp] theorem setPending_kf (s : State) (is : (List Input)) : (s.setPending is).kf = s.kf := rfl
@[simp] theorem setPending_kstat (s : State) (is : (List Input)) : (s.setPending is).kstat = s.kstat := rfl
@[simp] theorem setPending_result (s : State) (is : (List Input)) : (s.setPending is).result = s.result := rfl
@[simp] theorem setPending_resets (s : State) (is : (List Input)) : (s.setPending is).resets = s.resets := rfl
@[simp] theorem setPending_out (s : State) (is : (List Input)) : (s.setPending is).out = s.out := rfl
@[simp] theorem setPending_pending (s : State) (is : (List Input)) : (s.setPending is).pending = is := rfl

@[simp] theorem setResult_build (s : State) (op : Byte) (c : ResultCode) : (s.setResult op c).build = s.build := rfl
@[simp] theorem setResult_rx (s : State) (op : Byte) (c : ResultCode) : (s.setResult op c).rx = s.rx := rfl
@[simp] theorem setResult_tx (s : State) (op : Byte) (c : ResultCode) : (s.setResult op c).tx = s.tx := rfl
@[simp] theorem setResult_stage (s : State) (op : Byte) (c : ResultCode) : (s.setResult op c).stage = s.stage := rfl
@[simp] theorem setResult_snap (s : State) (op : Byte) (c : ResultCode) : (s.setResult op c).snap = s.snap := rfl
@[simp] theorem setResult_fstat (s : State) (op : Byte) (c : ResultCode) : (s.setResult op c).fstat = s.fstat := rfl
@[simp] theorem setResult_ctrl (s : State) (op : Byte) (c : ResultCode) : (s.setResult op c).ctrl = s.ctrl := rfl
@[simp] theorem setResult_kop (s : State) (op : Byte) (c : ResultCode) : (s.setResult op c).kop = s.kop := rfl
@[simp] theorem setResult_kf (s : State) (op : Byte) (c : ResultCode) : (s.setResult op c).kf = s.kf := rfl
@[simp] theorem setResult_kstat (s : State) (op : Byte) (c : ResultCode) : (s.setResult op c).kstat = s.kstat := rfl
@[simp] theorem setResult_result (s : State) (op : Byte) (c : ResultCode) : (s.setResult op c).result = { op := op, code := c } := rfl
@[simp] theorem setResult_resets (s : State) (op : Byte) (c : ResultCode) : (s.setResult op c).resets = s.resets := rfl
@[simp] theorem setResult_out (s : State) (op : Byte) (c : ResultCode) : (s.setResult op c).out = s.out := rfl
@[simp] theorem setResult_pending (s : State) (op : Byte) (c : ResultCode) : (s.setResult op c).pending = s.pending := rfl

/-! ## Composed updates -/

@[simp] theorem raise_build (s : State) (f : FramerFlag) : (s.raise f).build = s.build := rfl
@[simp] theorem raise_rx (s : State) (f : FramerFlag) : (s.raise f).rx = s.rx := rfl
@[simp] theorem raise_tx (s : State) (f : FramerFlag) : (s.raise f).tx = s.tx := rfl
@[simp] theorem raise_stage (s : State) (f : FramerFlag) : (s.raise f).stage = s.stage := rfl
@[simp] theorem raise_snap (s : State) (f : FramerFlag) : (s.raise f).snap = s.snap := rfl
@[simp] theorem raise_fstat (s : State) (f : FramerFlag) : (s.raise f).fstat = s.fstat.raise f := rfl
@[simp] theorem raise_ctrl (s : State) (f : FramerFlag) : (s.raise f).ctrl = s.ctrl := rfl
@[simp] theorem raise_kop (s : State) (f : FramerFlag) : (s.raise f).kop = s.kop := rfl
@[simp] theorem raise_kf (s : State) (f : FramerFlag) : (s.raise f).kf = s.kf := rfl
@[simp] theorem raise_kstat (s : State) (f : FramerFlag) : (s.raise f).kstat = s.kstat := rfl
@[simp] theorem raise_result (s : State) (f : FramerFlag) : (s.raise f).result = s.result := rfl
@[simp] theorem raise_resets (s : State) (f : FramerFlag) : (s.raise f).resets = s.resets := rfl
@[simp] theorem raise_out (s : State) (f : FramerFlag) : (s.raise f).out = s.out := rfl
@[simp] theorem raise_pending (s : State) (f : FramerFlag) : (s.raise f).pending = s.pending := rfl

@[simp] theorem raiseDterr_build (s : State) : (s.raiseDterr).build = s.build := rfl
@[simp] theorem raiseDterr_rx (s : State) : (s.raiseDterr).rx = s.rx := rfl
@[simp] theorem raiseDterr_tx (s : State) : (s.raiseDterr).tx = s.tx := rfl
@[simp] theorem raiseDterr_stage (s : State) : (s.raiseDterr).stage = s.stage := rfl
@[simp] theorem raiseDterr_snap (s : State) : (s.raiseDterr).snap = s.snap := rfl
@[simp] theorem raiseDterr_fstat (s : State) : (s.raiseDterr).fstat = s.fstat := rfl
@[simp] theorem raiseDterr_ctrl (s : State) : (s.raiseDterr).ctrl = s.ctrl := rfl
@[simp] theorem raiseDterr_kop (s : State) : (s.raiseDterr).kop = s.kop := rfl
@[simp] theorem raiseDterr_kf (s : State) : (s.raiseDterr).kf = s.kf := rfl
@[simp] theorem raiseDterr_kstat (s : State) : (s.raiseDterr).kstat = { s.kstat with dterr := true } := rfl
@[simp] theorem raiseDterr_result (s : State) : (s.raiseDterr).result = s.result := rfl
@[simp] theorem raiseDterr_resets (s : State) : (s.raiseDterr).resets = s.resets := rfl
@[simp] theorem raiseDterr_out (s : State) : (s.raiseDterr).out = s.out := rfl
@[simp] theorem raiseDterr_pending (s : State) : (s.raiseDterr).pending = s.pending := rfl

@[simp] theorem storeRx_build (s : State) (b : Byte) : (s.storeRx b).build = s.build := rfl
@[simp] theorem storeRx_rx (s : State) (b : Byte) : (s.storeRx b).rx = s.rx.store b := rfl
@[simp] theorem storeRx_tx (s : State) (b : Byte) : (s.storeRx b).tx = s.tx := rfl
@[simp] theorem storeRx_stage (s : State) (b : Byte) : (s.storeRx b).stage = s.stage := rfl
@[simp] theorem storeRx_snap (s : State) (b : Byte) : (s.storeRx b).snap = s.snap := rfl
@[simp] theorem storeRx_fstat (s : State) (b : Byte) : (s.storeRx b).fstat = s.fstat := rfl
@[simp] theorem storeRx_ctrl (s : State) (b : Byte) : (s.storeRx b).ctrl = s.ctrl := rfl
@[simp] theorem storeRx_kop (s : State) (b : Byte) : (s.storeRx b).kop = s.kop := rfl
@[simp] theorem storeRx_kf (s : State) (b : Byte) : (s.storeRx b).kf = s.kf := rfl
@[simp] theorem storeRx_kstat (s : State) (b : Byte) : (s.storeRx b).kstat = s.kstat := rfl
@[simp] theorem storeRx_result (s : State) (b : Byte) : (s.storeRx b).result = s.result := rfl
@[simp] theorem storeRx_resets (s : State) (b : Byte) : (s.storeRx b).resets = s.resets := rfl
@[simp] theorem storeRx_out (s : State) (b : Byte) : (s.storeRx b).out = s.out := rfl
@[simp] theorem storeRx_pending (s : State) (b : Byte) : (s.storeRx b).pending = s.pending := rfl

@[simp] theorem restartRx_build (s : State) : (s.restartRx).build = s.build := rfl
@[simp] theorem restartRx_rx (s : State) : (s.restartRx).rx = s.rx.restart := rfl
@[simp] theorem restartRx_tx (s : State) : (s.restartRx).tx = s.tx := rfl
@[simp] theorem restartRx_stage (s : State) : (s.restartRx).stage = s.stage := rfl
@[simp] theorem restartRx_snap (s : State) : (s.restartRx).snap = s.snap := rfl
@[simp] theorem restartRx_fstat (s : State) : (s.restartRx).fstat = s.fstat := rfl
@[simp] theorem restartRx_ctrl (s : State) : (s.restartRx).ctrl = s.ctrl := rfl
@[simp] theorem restartRx_kop (s : State) : (s.restartRx).kop = s.kop := rfl
@[simp] theorem restartRx_kf (s : State) : (s.restartRx).kf = s.kf := rfl
@[simp] theorem restartRx_kstat (s : State) : (s.restartRx).kstat = s.kstat := rfl
@[simp] theorem restartRx_result (s : State) : (s.restartRx).result = s.result := rfl
@[simp] theorem restartRx_resets (s : State) : (s.restartRx).resets = s.resets := rfl
@[simp] theorem restartRx_out (s : State) : (s.restartRx).out = s.out := rfl
@[simp] theorem restartRx_pending (s : State) : (s.restartRx).pending = s.pending := rfl

@[simp] theorem setDataReady_build (s : State) (v : Bool) : (s.setDataReady v).build = s.build := rfl
@[simp] theorem setDataReady_rx (s : State) (v : Bool) : (s.setDataReady v).rx = { s.rx with dataReady := v } := rfl
@[simp] theorem setDataReady_tx (s : State) (v : Bool) : (s.setDataReady v).tx = s.tx := rfl
@[simp] theorem setDataReady_stage (s : State) (v : Bool) : (s.setDataReady v).stage = s.stage := rfl
@[simp] theorem setDataReady_snap (s : State) (v : Bool) : (s.setDataReady v).snap = s.snap := rfl
@[simp] theorem setDataReady_fstat (s : State) (v : Bool) : (s.setDataReady v).fstat = s.fstat := rfl
@[simp] theorem setDataReady_ctrl (s : State) (v : Bool) : (s.setDataReady v).ctrl = s.ctrl := rfl
@[simp] theorem setDataReady_kop (s : State) (v : Bool) : (s.setDataReady v).kop = s.kop := rfl
@[simp] theorem setDataReady_kf (s : State) (v : Bool) : (s.setDataReady v).kf = s.kf := rfl
@[simp] theorem setDataReady_kstat (s : State) (v : Bool) : (s.setDataReady v).kstat = s.kstat := rfl
@[simp] theorem setDataReady_result (s : State) (v : Bool) : (s.setDataReady v).result = s.result := rfl
@[simp] theorem setDataReady_resets (s : State) (v : Bool) : (s.setDataReady v).resets = s.resets := rfl
@[simp] theorem setDataReady_out (s : State) (v : Bool) : (s.setDataReady v).out = s.out := rfl
@[simp] theorem setDataReady_pending (s : State) (v : Bool) : (s.setDataReady v).pending = s.pending := rfl

@[simp] theorem loadTx_build (s : State) (l : List Byte) : (s.loadTx l).build = s.build := rfl
@[simp] theorem loadTx_rx (s : State) (l : List Byte) : (s.loadTx l).rx = s.rx := rfl
@[simp] theorem loadTx_tx (s : State) (l : List Byte) : (s.loadTx l).tx = { buffer := Memory.writeBytes s.tx.buffer 0 l, index := 0#9, expectedLength := BitVec.ofNat 9 l.length } := rfl
@[simp] theorem loadTx_stage (s : State) (l : List Byte) : (s.loadTx l).stage = s.stage := rfl
@[simp] theorem loadTx_snap (s : State) (l : List Byte) : (s.loadTx l).snap = s.snap := rfl
@[simp] theorem loadTx_fstat (s : State) (l : List Byte) : (s.loadTx l).fstat = s.fstat := rfl
@[simp] theorem loadTx_ctrl (s : State) (l : List Byte) : (s.loadTx l).ctrl = s.ctrl := rfl
@[simp] theorem loadTx_kop (s : State) (l : List Byte) : (s.loadTx l).kop = s.kop := rfl
@[simp] theorem loadTx_kf (s : State) (l : List Byte) : (s.loadTx l).kf = s.kf := rfl
@[simp] theorem loadTx_kstat (s : State) (l : List Byte) : (s.loadTx l).kstat = s.kstat := rfl
@[simp] theorem loadTx_result (s : State) (l : List Byte) : (s.loadTx l).result = s.result := rfl
@[simp] theorem loadTx_resets (s : State) (l : List Byte) : (s.loadTx l).resets = s.resets := rfl
@[simp] theorem loadTx_out (s : State) (l : List Byte) : (s.loadTx l).out = s.out := rfl
@[simp] theorem loadTx_pending (s : State) (l : List Byte) : (s.loadTx l).pending = s.pending := rfl

@[simp] theorem takeSnapshot_build (s : State) : (s.takeSnapshot).build = s.build := rfl
@[simp] theorem takeSnapshot_rx (s : State) : (s.takeSnapshot).rx = s.rx := rfl
@[simp] theorem takeSnapshot_tx (s : State) : (s.takeSnapshot).tx = s.tx := rfl
@[simp] theorem takeSnapshot_stage (s : State) : (s.takeSnapshot).stage = s.stage := rfl
@[simp] theorem takeSnapshot_snap (s : State) : (s.takeSnapshot).snap = Memory.writeBytes s.snap 0 (s.rxSlice 0 s.build.cap) := rfl
@[simp] theorem takeSnapshot_fstat (s : State) : (s.takeSnapshot).fstat = s.fstat := rfl
@[simp] theorem takeSnapshot_ctrl (s : State) : (s.takeSnapshot).ctrl = s.ctrl := rfl
@[simp] theorem takeSnapshot_kop (s : State) : (s.takeSnapshot).kop = s.kop := rfl
@[simp] theorem takeSnapshot_kf (s : State) : (s.takeSnapshot).kf = s.kf := rfl
@[simp] theorem takeSnapshot_kstat (s : State) : (s.takeSnapshot).kstat = s.kstat := rfl
@[simp] theorem takeSnapshot_result (s : State) : (s.takeSnapshot).result = s.result := rfl
@[simp] theorem takeSnapshot_resets (s : State) : (s.takeSnapshot).resets = s.resets := rfl
@[simp] theorem takeSnapshot_out (s : State) : (s.takeSnapshot).out = s.out := rfl
@[simp] theorem takeSnapshot_pending (s : State) : (s.takeSnapshot).pending = s.pending := rfl

@[simp] theorem finish_build (s : State) (op : Byte) (c : ResultCode) : (s.finish op c).build = s.build := rfl
@[simp] theorem finish_rx (s : State) (op : Byte) (c : ResultCode) : (s.finish op c).rx = s.rx := rfl
@[simp] theorem finish_tx (s : State) (op : Byte) (c : ResultCode) : (s.finish op c).tx = s.tx := rfl
@[simp] theorem finish_stage (s : State) (op : Byte) (c : ResultCode) : (s.finish op c).stage = s.stage := rfl
@[simp] theorem finish_snap (s : State) (op : Byte) (c : ResultCode) : (s.finish op c).snap = s.snap := rfl
@[simp] theorem finish_fstat (s : State) (op : Byte) (c : ResultCode) : (s.finish op c).fstat = s.fstat := rfl
@[simp] theorem finish_ctrl (s : State) (op : Byte) (c : ResultCode) : (s.finish op c).ctrl = s.ctrl := rfl
@[simp] theorem finish_kop (s : State) (op : Byte) (c : ResultCode) : (s.finish op c).kop = s.kop := rfl
@[simp] theorem finish_kf (s : State) (op : Byte) (c : ResultCode) : (s.finish op c).kf = s.kf := rfl
@[simp] theorem finish_kstat (s : State) (op : Byte) (c : ResultCode) : (s.finish op c).kstat = s.kstat := rfl
@[simp] theorem finish_result (s : State) (op : Byte) (c : ResultCode) : (s.finish op c).result = { op := op, code := c } := rfl
@[simp] theorem finish_resets (s : State) (op : Byte) (c : ResultCode) : (s.finish op c).resets = s.resets := rfl
@[simp] theorem finish_out (s : State) (op : Byte) (c : ResultCode) : (s.finish op c).out = .none := rfl
@[simp] theorem finish_pending (s : State) (op : Byte) (c : ResultCode) : (s.finish op c).pending = s.pending := rfl

end State

/-! ## Records of the receive side -/

@[simp] theorem Rx.store_buffer (r : Rx) (b : Byte) : (r.store b).buffer = Memory.write r.buffer r.index.toNat b := rfl
@[simp] theorem Rx.store_index (r : Rx) (b : Byte) : (r.store b).index = r.index + 1#9 := rfl
@[simp] theorem Rx.store_expectedLength (r : Rx) (b : Byte) : (r.store b).expectedLength = r.expectedLength := rfl
@[simp] theorem Rx.store_dataReady (r : Rx) (b : Byte) : (r.store b).dataReady = r.dataReady := rfl
@[simp] theorem Rx.restart_buffer (r : Rx) : (r.restart).buffer = r.buffer := rfl
@[simp] theorem Rx.restart_index (r : Rx) : (r.restart).index = 0#9 := rfl
@[simp] theorem Rx.restart_expectedLength (r : Rx) : (r.restart).expectedLength = 4#9 := rfl
@[simp] theorem Rx.restart_dataReady (r : Rx) : (r.restart).dataReady = r.dataReady := rfl

/-- What `raise` does to each framer bit: it sets the named one and keeps the others. -/
theorem FramerStatus.raise_bits (f : FramerFlag) (st : FramerStatus) :
    st.raise f = { ferr := st.ferr || f == .ferr, cerr := st.cerr || f == .cerr, ovr := st.ovr || f == .ovr,
                   busy := st.busy || f == .busy } := by
  cases f <;> simp [FramerStatus.raise]

/-- Raising a bit that is set changes nothing (R257). -/
theorem FramerStatus.raise_raise (f : FramerFlag) (st : FramerStatus) : (st.raise f).raise f = st.raise f := by
  cases f <;> rfl

end Sys2Proof.Machine
end

