-- ==== Sys2Proof/Laws/Commands.lean ====
section
/-!
SUPPORT. What the commands' shared operations leave in the byte memories, and the memories of the reset state.
-/

namespace Sys2Proof.Machine

/-- The four byte memories right after reset are in canonical form (R47). -/
theorem reset_memories_wf :
    Memory.wf State.reset.rx.buffer ∧ Memory.wf State.reset.tx.buffer ∧ Memory.wf State.reset.stage ∧
      Memory.wf State.reset.snap := by
  simp [State.reset, State.afterPowerOn]

/-- A frame loaded for transmission stands at the start of `tx_buffer`; the bytes past it are kept (R184). -/
theorem txByte_loadTx (s : State) (frame : List Byte) (j : Nat) :
    (s.loadTx frame).txByte j = if j < frame.length then frame.getD j 0#8 else s.txByte j := by
  have h := Memory.read_writeBytes (Config.powerOnByte s.resets .txBuffer) s.tx.buffer 0 frame j
  simp only [Nat.zero_le, true_and, Nat.zero_add, Nat.sub_zero] at h
  exact h

/-- A snapshot is the receive buffer, byte by byte; the cells the buffer does not have are as before (R185). -/
theorem snapByte_takeSnapshot (s : State) (j : Nat) :
    s.takeSnapshot.snapByte j = if j < s.build.cap then s.rxByte j else s.snapByte j := by
  have h := Memory.read_writeBytes (Config.powerOnByte s.resets .snap) s.snap 0 (s.rxSlice 0 s.build.cap) j
  change s.takeSnapshot.snapByte j = _ at h
  rw [h]
  by_cases hj : j < s.build.cap
  · simp [State.rxSlice, hj]
  · simp [State.rxSlice, hj]
    rfl

@[simp] theorem length_stageSlice (s : State) (n : Nat) : (s.stageSlice n).length = n := by simp [State.stageSlice]
@[simp] theorem length_rxSlice (s : State) (a n : Nat) : (s.rxSlice a n).length = n := by simp [State.rxSlice]

end Sys2Proof.Machine
end

