-- ==== Sys2Proof/Laws/Decode.lean ====
section
/-!
SUPPORT. The fields of a command word, read back from the word that holds them, and the opcode map in both directions.
-/

namespace Sys2Proof

/-- Bit `i` of a command word, by field (R104). -/
theorem getLsbD_commandWord (op a b : Byte) (i : Nat) :
    (commandWord op a b).getLsbD i =
      if i < 8 then op.getLsbD i
      else if i < 16 then a.getLsbD (i - 8)
      else if i < 24 then b.getLsbD (i - 16)
      else false := by
  change BitVec.getLsbD (w := 8 + 8 + 8 + 8) (0x00#8 ++ b ++ a ++ op) i = _
  simp only [BitVec.getLsbD_append, BitVec.getLsbD_zero]
  split_ifs <;> first | rfl | omega

theorem cmdOp_commandWord (op a b : Byte) : cmdOp (commandWord op a b) = op := by
  ext i hi
  simp [cmdOp, getLsbD_commandWord, hi]

theorem cmdA_commandWord (op a b : Byte) : cmdA (commandWord op a b) = a := by
  ext i hi
  simp [cmdA, getLsbD_commandWord, show 8 + i < 16 by omega, hi]

theorem cmdB_commandWord (op a b : Byte) : cmdB (commandWord op a b) = b := by
  ext i hi
  simp [cmdB, getLsbD_commandWord, show ¬ 16 + i < 8 by omega, show ¬ 16 + i < 16 by omega, show 16 + i < 24 by omega, hi]

theorem cmdRsv_commandWord (op a b : Byte) : cmdRsv (commandWord op a b) = 0x00#8 := by
  ext i hi
  simp [cmdRsv, getLsbD_commandWord, show ¬ 24 + i < 8 by omega, show ¬ 24 + i < 16 by omega]

/-- A word is its four fields. -/
theorem fields_append (v : Word) : cmdRsv v ++ cmdB v ++ cmdA v ++ cmdOp v = v := by
  ext i hi
  simp only [cmdRsv, cmdB, cmdA, cmdOp, BitVec.getElem_append, BitVec.getElem_extractLsb']
  split_ifs <;> simp only [BitVec.getLsbD, BitVec.getElem_eq_testBit_toNat] <;> congr 1 <;> omega

/-- A word with RSV = 0 is the command word of its other fields. -/
theorem commandWord_fields {v : Word} (h : cmdRsv v = 0x00#8) : commandWord (cmdOp v) (cmdA v) (cmdB v) = v := by
  have := fields_append v
  rwa [h] at this

theorem opcodeOf_code (op : Opcode) : opcodeOf op.code = some op := by
  cases op <;> rfl

theorem code_of_opcodeOf {b : Byte} {op : Opcode} (h : opcodeOf b = some op) : op.code = b := by
  unfold opcodeOf at h
  split_ifs at h with h1 h2 h3 h4 h5 h6 <;> cases h <;> simp_all [Opcode.code]

theorem mem_assignedOpcodes (b : Byte) : b ∈ assignedOpcodes ↔ (opcodeOf b).isSome := by
  unfold opcodeOf assignedOpcodes
  split_ifs <;> simp_all

/-- The decoder accepts exactly the legal command words of WellFormed. -/
theorem legalCommandWord_iff (v : Word) : legalCommandWord v = true ↔ ∃ c, decodeCommand v = .ok c := by
  have hop := mem_assignedOpcodes (cmdOp v)
  unfold legalCommandWord decodeCommand
  simp only [Bool.and_eq_true, beq_iff_eq, List.contains_iff_mem]
  change cmdRsv v = 0#8 ∧ cmdOp v ∈ assignedOpcodes ↔ _
  rw [hop]
  by_cases hr : cmdRsv v = 0#8
  · rw [if_pos hr]
    cases h : opcodeOf (cmdOp v) <;> simp [hr]
  · simp [hr]

/-- The decoder's answer on a command word written from its fields. -/
theorem decodeCommand_commandWord (op : Opcode) (a b : Byte) :
    decodeCommand (commandWord op.code a b) = .ok { op := op, a := a, b := b } := by
  simp only [decodeCommand, cmdRsv_commandWord, cmdOp_commandWord, cmdA_commandWord, cmdB_commandWord, opcodeOf_code,
    if_true]

/-- What the decoder accepts is the command word of the fields it gives. -/
theorem decodeCommand_ok {v : Word} {c : Command} (h : decodeCommand v = .ok c) : v = commandWord c.op.code c.a c.b := by
  unfold decodeCommand at h
  split at h
  · next hr =>
    split at h
    · next op ho =>
      cases h
      rw [code_of_opcodeOf ho, commandWord_fields hr]
    · cases h
  · cases h

end Sys2Proof
end

