-- ==== Sys2Proof/Laws/Link.lean ====
section
/-!
SUPPORT. The link framer: what an exchange does, once for each receive position, and what it leaves unchanged.
-/

namespace Sys2Proof.Machine

namespace State

/-! ## Bytes of the receive buffer through the updates -/

theorem rxByte_storeRx (s : State) (b : Byte) (j : Nat) :
    (s.storeRx b).rxByte j = if s.rx.index.toNat = j then b else s.rxByte j :=
  Memory.read_write _ _ _ _ _

@[simp] theorem rxByte_raise (s : State) (f : FramerFlag) (j : Nat) : (s.raise f).rxByte j = s.rxByte j := rfl
@[simp] theorem rxByte_restartRx (s : State) (j : Nat) : s.restartRx.rxByte j = s.rxByte j := rfl
@[simp] theorem rxByte_setDataReady (s : State) (v : Bool) (j : Nat) : (s.setDataReady v).rxByte j = s.rxByte j := rfl
@[simp] theorem rxByte_setOut (s : State) (o : StepOutput) (j : Nat) : (s.setOut o).rxByte j = s.rxByte j := rfl
@[simp] theorem rxByte_setTx (s : State) (t : Tx) (j : Nat) : (s.setTx t).rxByte j = s.rxByte j := rfl

/-! ## The transmit side -/

/-- What the transmit side changes: the transmit state alone. -/
theorem advanceTx_eq (s : State) :
    s.advanceTx = s.setTx { s.tx with index := if s.txPending then s.tx.index + 1#9 else s.tx.index } := by
  unfold advanceTx
  split <;> rfl

@[simp] theorem advanceTx_rx (s : State) : s.advanceTx.rx = s.rx := by rw [advanceTx_eq]; rfl
@[simp] theorem advanceTx_fstat (s : State) : s.advanceTx.fstat = s.fstat := by rw [advanceTx_eq]; rfl
@[simp] theorem advanceTx_build (s : State) : s.advanceTx.build = s.build := by rw [advanceTx_eq]; rfl
@[simp] theorem advanceTx_resets (s : State) : s.advanceTx.resets = s.resets := by rw [advanceTx_eq]; rfl
@[simp] theorem rxByte_advanceTx (s : State) (j : Nat) : s.advanceTx.rxByte j = s.rxByte j := by rw [advanceTx_eq]; rfl

/-! ## The receive side, by position (R23) -/

theorem receive_awaitMark1 {s : State} (h : s.rx.index = 0#9) (b : Byte) : s.receive b = s.awaitMark1 b := by
  simp [receive, h]

theorem receive_awaitMark2 {s : State} (h : s.rx.index = 1#9) (b : Byte) : s.receive b = s.awaitMark2 b := by
  simp [receive, h]

theorem receive_readType {s : State} (h : s.rx.index = 2#9) (b : Byte) : s.receive b = s.readType b := by
  simp [receive, h]

theorem receive_readLength {s : State} (h : s.rx.index = 3#9) (b : Byte) : s.receive b = s.readLength b := by
  simp [receive, h]

theorem receive_readPayload {s : State} (h : 4 ≤ s.rx.index.toNat) (b : Byte) : s.receive b = s.readPayload b := by
  have ne : ∀ k : Cursor, k.toNat < 4 → s.rx.index ≠ k := fun k hk e => by rw [e] at h; omega
  simp [receive, ne 0#9 (by decide), ne 1#9 (by decide), ne 2#9 (by decide), ne 3#9 (by decide)]

/-- Every receive position is one of the five of R23. -/
theorem index_cases (c : Cursor) : c = 0#9 ∨ c = 1#9 ∨ c = 2#9 ∨ c = 3#9 ∨ 4 ≤ c.toNat := by
  simp only [← BitVec.toNat_inj, BitVec.toNat_ofNat]
  omega

/-- The cases of the receive side (R151), each with its guard and the state it leaves. -/
inductive Received (s : State) (b : Byte) (t : State) : Prop
  /-- AWAIT_MARK1, no MARK (R154) -/
  | ignored (hi : s.rx.index = 0#9) (hb : b ≠ s.build.mark) (e : t = s)
  /-- AWAIT_MARK1, MARK (R154) -/
  | mark1 (hi : s.rx.index = 0#9) (hb : b = s.build.mark) (e : t = s.storeRx b)
  /-- AWAIT_MARK2, MARK, no frame held (R155) -/
  | mark2 (hi : s.rx.index = 1#9) (hb : b = s.build.mark) (hd : s.rx.dataReady = false) (e : t = s.storeRx b)
  /-- AWAIT_MARK2, MARK, an unconsumed frame lost (R155) -/
  | overrun (hi : s.rx.index = 1#9) (hb : b = s.build.mark) (hd : s.rx.dataReady = true)
      (e : t = ((s.storeRx b).setDataReady false).raise .ovr)
  /-- AWAIT_MARK2, no MARK (R155) -/
  | badMark (hi : s.rx.index = 1#9) (hb : b ≠ s.build.mark) (e : t = (s.setRx { s.rx with index := 0#9 }).raise .ferr)
  /-- READING_TYPE (R157) -/
  | typeByte (hi : s.rx.index = 2#9) (e : t = s.storeRx b)
  /-- READING_LENGTH, too long (R156) -/
  | tooLong (hi : s.rx.index = 3#9) (hl : s.build.cap < 6 + b.toNat) (e : t = s.restartRx.raise .ferr)
  /-- READING_LENGTH, accepted (R156) -/
  | lengthByte (hi : s.rx.index = 3#9) (hl : 6 + b.toNat ≤ s.build.cap)
      (e : t = (s.storeRx b).setRx { s.rx.store b with expectedLength := BitVec.ofNat 9 (6 + b.toNat) })
  /-- READING_PAYLOAD, more to come (R158) -/
  | payloadByte (hi : 4 ≤ s.rx.index.toNat) (hn : s.rx.index + 1#9 ≠ s.rx.expectedLength) (e : t = s.storeRx b)
  /-- VALIDATING, a match (R159) -/
  | valid (hi : 4 ≤ s.rx.index.toNat) (hn : s.rx.index + 1#9 = s.rx.expectedLength)
      (hv : (s.storeRx b).storedSum = (s.storeRx b).computedSum)
      (e : t = ((s.storeRx b).setDataReady true).restartRx)
  /-- VALIDATING, a mismatch (R159) -/
  | invalid (hi : 4 ≤ s.rx.index.toNat) (hn : s.rx.index + 1#9 = s.rx.expectedLength)
      (hv : (s.storeRx b).storedSum ≠ (s.storeRx b).computedSum) (e : t = ((s.storeRx b).raise .cerr).restartRx)

/-- Everything the receive side can do. -/
theorem receive_cases (s : State) (b : Byte) : Received s b (s.receive b) := by
  rcases index_cases s.rx.index with h | h | h | h | h
  · rw [receive_awaitMark1 h, awaitMark1]
    split
    · next hb => exact .mark1 h hb rfl
    · next hb => exact .ignored h hb rfl
  · rw [receive_awaitMark2 h, awaitMark2]
    split
    · next hb =>
      split
      · next hd => exact .overrun h hb hd rfl
      · next hd => exact .mark2 h hb (by simpa using hd) rfl
    · next hb => exact .badMark h hb rfl
  · exact .typeByte h (receive_readType h b)
  · rw [receive_readLength h, readLength]
    split
    · next hl => exact .tooLong h hl rfl
    · next hl => exact .lengthByte h (by omega) rfl
  · rw [receive_readPayload h, readPayload]
    by_cases hn : s.rx.index + 1#9 = s.rx.expectedLength
    · rw [if_pos (by exact hn), validate]
      split
      · next hv => exact .valid h hn hv rfl
      · next hv => exact .invalid h hn hv rfl
    · rw [if_neg (by exact hn)]
      exact .payloadByte h hn rfl

/-- The receive side changes the receive state and the framer's sticky bits, nothing else (R165). -/
theorem receive_eq (s : State) (b : Byte) : s.receive b = (s.setRx (s.receive b).rx).setFstat (s.receive b).fstat := by
  cases receive_cases s b <;> next e => rw [e]; try rfl

theorem receive_build (s : State) (b : Byte) : (s.receive b).build = s.build := by rw [receive_eq]; rfl
theorem receive_tx (s : State) (b : Byte) : (s.receive b).tx = s.tx := by rw [receive_eq]; rfl

/-- The byte of READING_PAYLOAD, by whether it completes the frame and whether the frame is valid (R158, R159). -/
theorem readPayload_eq (s : State) (b : Byte) :
    s.readPayload b =
      if s.rx.index + 1#9 = s.rx.expectedLength then
        if (s.storeRx b).storedSum = (s.storeRx b).computedSum then ((s.storeRx b).setDataReady true).restartRx
        else ((s.storeRx b).raise .cerr).restartRx
      else s.storeRx b := rfl

/-- The receive side reads only the build, the receive state and the framer's sticky bits (R165): on states that agree on
these it leaves the same receive state and the same bits. -/
theorem receive_congr {s t : State} (hb : s.build = t.build) (hr : s.resets = t.resets) (hx : s.rx = t.rx)
    (hf : s.fstat = t.fstat) (b : Byte) :
    (s.receive b).rx = (t.receive b).rx ∧ (s.receive b).fstat = (t.receive b).fstat := by
  obtain ⟨⟩ := s
  obtain ⟨⟩ := t
  simp only at hb hr hx hf
  subst hb hr hx hf
  simp only [receive]
  split_ifs
  · simp only [awaitMark1]
    split_ifs <;> exact ⟨rfl, rfl⟩
  · simp only [awaitMark2]
    split_ifs <;> exact ⟨rfl, rfl⟩
  · exact ⟨rfl, rfl⟩
  · simp only [readLength]
    split_ifs <;> exact ⟨rfl, rfl⟩
  · rw [readPayload_eq, readPayload_eq]
    split_ifs with hn hv hv' hv' <;> first | exact ⟨rfl, rfl⟩ | exact absurd hv hv' | exact absurd hv' hv

/-- The receive side neither reads nor writes BUSY (R165): it does the same whatever BUSY is, and leaves it as it was. -/
theorem receive_setBusy (s : State) (x : Bool) (b : Byte) :
    (s.setFstat { s.fstat with busy := x }).receive b =
      (s.receive b).setFstat { (s.receive b).fstat with busy := x } := by
  rcases index_cases s.rx.index with h | h | h | h | h
  · rw [receive_awaitMark1 (by exact h), receive_awaitMark1 h]
    unfold awaitMark1
    by_cases hb : b = s.build.mark
    · rw [if_pos (by exact hb), if_pos hb]
      rfl
    · rw [if_neg (by exact hb), if_neg hb]
  · rw [receive_awaitMark2 (by exact h), receive_awaitMark2 h]
    unfold awaitMark2
    by_cases hb : b = s.build.mark
    · rw [if_pos (by exact hb), if_pos hb]
      by_cases hd : s.rx.dataReady = true
      · rw [if_pos (by exact hd), if_pos hd]
        rfl
      · rw [if_neg (by exact hd), if_neg hd]
        rfl
    · rw [if_neg (by exact hb), if_neg hb]
      rfl
  · rw [receive_readType (by exact h), receive_readType h]
    rfl
  · rw [receive_readLength (by exact h), receive_readLength h]
    unfold readLength
    by_cases hl : s.build.cap < 6 + b.toNat
    · rw [if_pos (by exact hl), if_pos hl]
      rfl
    · rw [if_neg (by exact hl), if_neg hl]
      rfl
  · rw [receive_readPayload (by exact h), receive_readPayload h, readPayload_eq, readPayload_eq]
    by_cases hn : s.rx.index + 1#9 = s.rx.expectedLength
    · rw [if_pos (by exact hn), if_pos hn]
      by_cases hv : (s.storeRx b).storedSum = (s.storeRx b).computedSum
      · rw [if_pos (by exact hv), if_pos hv]
        rfl
      · rw [if_neg (by exact hv), if_neg hv]
        rfl
    · rw [if_neg (by exact hn), if_neg hn]
      rfl

/-- No exchange touches a byte of the receive buffer but the one at `rx_index`. -/
theorem rxByte_receive {s : State} {b : Byte} {a : Nat} (h : a ≠ s.rx.index.toNat) : (s.receive b).rxByte a = s.rxByte a := by
  have hs : (s.storeRx b).rxByte a = s.rxByte a := by rw [rxByte_storeRx, if_neg (Ne.symm h)]
  cases receive_cases s b <;> next e => rw [e] <;> first | rfl | exact hs

end State

/-! ## The operation -/

theorem execLinkByte_disabled {s : State} (h : s.ctrl.linkEn = false) (b : Byte) :
    execLinkByte b s = .next (s.setOut (.sent s.build.fill)) := by
  simp [execLinkByte, h]

theorem execLinkByte_enabled {s : State} (h : s.ctrl.linkEn = true) (b : Byte) :
    execLinkByte b s = .next ((s.advanceTx.receive b).setOut (.sent s.txOut)) := by
  simp [execLinkByte, h]


end Sys2Proof.Machine
end

