-- ==== Sys2Proof/Laws/PerInstr.lean ====
section
/-!
SUPPORT. Statements made for every instruction, one lemma a constructor.
-/

namespace Sys2Proof.Laws.TableRow

/-- What spec/opcode_table.json says of an instruction's encoding: a command is a write to CMD of a word that agrees with
the row's `match` on the bits of its `mask` (0xFF0000FF), a bus access carries its 12-bit offset, a byte exchange its
byte. -/
def Statement (i : Instr) : Prop :=
  let command (w : Word) : Prop := ∃ v, encode i = .hostWrite 0x00C#12 v ∧ v &&& 0xFF0000FF#32 = w
  match i with
  | .nop _ _ => command 0x00000000#32
  | .send _ _ => command 0x00000001#32
  | .consume _ _ => command 0x00000002#32
  | .resetLink _ _ => command 0x00000003#32
  | .kfReset _ _ => command 0x00000010#32
  | .kfApply _ _ => command 0x00000011#32
  | .busRead off => encode i = .hostRead off
  | .busWrite off v => encode i = .hostWrite off v
  | .linkByte b => encode i = .linkByte b

/-- Masking a command word leaves its opcode. -/
theorem commandWord_masked (op a b : Byte) : commandWord op a b &&& 0xFF0000FF#32 = op.setWidth 32 := by
  apply BitVec.eq_of_getLsbD_eq
  intro i hi
  have hm : ∀ i < 32, (0xFF0000FF#32).getLsbD i = decide (i < 8 ∨ 24 ≤ i) := by decide
  rw [BitVec.getLsbD_and, getLsbD_commandWord, hm i hi, BitVec.getLsbD_setWidth]
  split_ifs with h1 h2 h3
  · simp [h1, hi]
  all_goals simp [BitVec.getLsbD_of_ge op i (by omega), h1]
  · omega
  · omega

theorem nop (a b : Byte) : Statement (.nop a b) := ⟨_, rfl, commandWord_masked 0x00#8 a b⟩
theorem send (ty len : Byte) : Statement (.send ty len) := ⟨_, rfl, commandWord_masked 0x01#8 ty len⟩
theorem consume (a b : Byte) : Statement (.consume a b) := ⟨_, rfl, commandWord_masked 0x02#8 a b⟩
theorem resetLink (a b : Byte) : Statement (.resetLink a b) := ⟨_, rfl, commandWord_masked 0x03#8 a b⟩
theorem kfReset (a b : Byte) : Statement (.kfReset a b) := ⟨_, rfl, commandWord_masked 0x10#8 a b⟩
theorem kfApply (a b : Byte) : Statement (.kfApply a b) := ⟨_, rfl, commandWord_masked 0x11#8 a b⟩
theorem busRead (off : Offset) : Statement (.busRead off) := rfl
theorem busWrite (off : Offset) (v : Word) : Statement (.busWrite off v) := rfl
theorem linkByte (b : Byte) : Statement (.linkByte b) := rfl

end Sys2Proof.Laws.TableRow
end

