-- ==== Sys2Proof/Laws/Registers.lean ====
section
/-!
SUPPORT. The register window: which offsets reach which register, and what a plain write leaves (20_memory.md R71 to R73,
42_channel_commands.md R181).
-/

namespace Sys2Proof.Machine

/-- Two offsets of one word reach the same register (R73). -/
theorem regAt_congr {off off' : Offset} (h : off.toNat / 4 = off'.toNat / 4) : regAt off = regAt off' :=
  congrArg (fun w => regOfAligned (4 * w)) h

theorem namedReg_cmd_iff (a : Nat) : namedReg a = .cmd ↔ a = 0x00C := by
  constructor
  · intro h
    unfold namedReg at h
    split at h <;> first | rfl | cases h
  · rintro rfl
    rfl

theorem regAt_txstage {off : Offset} (h1 : 0x400 ≤ off.toNat) (h2 : off.toNat ≤ 0x7FB) :
    regAt off = .txstage ((off.toNat - 0x400) / 4) := by
  unfold regAt regOfAligned alignedOffset
  rw [if_pos (by omega)]
  exact congrArg Reg.txstage (by omega)

theorem regAt_snap {off : Offset} (h1 : 0x800 ≤ off.toNat) (h2 : off.toNat ≤ 0xC13) :
    regAt off = .snap ((off.toNat - 0x800) / 4) := by
  unfold regAt regOfAligned alignedOffset
  rw [if_neg (by omega), if_pos (by omega)]
  exact congrArg Reg.snap (by omega)

/-- CMD is reached by its four offsets only. -/
theorem regAt_cmd_iff (off : Offset) : regAt off = .cmd ↔ off.toNat / 4 = 3 := by
  unfold regAt regOfAligned alignedOffset
  split_ifs with h1 h2
  · simp
    omega
  · simp
    omega
  · rw [namedReg_cmd_iff]
    omega

theorem regAt_unmapped {off : Offset}
    (h : (0x018 ≤ off.toNat ∧ off.toNat ≤ 0x03F) ∨ (0x070 ≤ off.toNat ∧ off.toNat ≤ 0x3FF) ∨
      (0x7FC ≤ off.toNat ∧ off.toNat ≤ 0x7FF) ∨ 0xC14 ≤ off.toNat) :
    regAt off = .unmapped := by
  unfold regAt regOfAligned
  generalize ha : alignedOffset off = a
  unfold alignedOffset at ha
  rw [if_neg (by omega), if_neg (by omega)]
  unfold namedReg
  split <;> first | rfl | omega

/-- The read-only registers ignore writes (R181). -/
theorem writeReg_readOnly {off : Offset}
    (h : off.toNat ≤ 0x003 ∨ (0x010 ≤ off.toNat ∧ off.toNat ≤ 0x017) ∨ (0x050 ≤ off.toNat ∧ off.toNat ≤ 0x06F))
    (v : Word) (s : State) : writeReg (regAt off) v s = s := by
  unfold regAt regOfAligned
  generalize ha : alignedOffset off = a
  unfold alignedOffset at ha
  rw [if_neg (by omega), if_neg (by omega)]
  unfold namedReg
  split <;> first | rfl | omega

/-! ## The bus operations -/

/-- A write that does not reach CMD is a plain register write (R181). -/
theorem execBusWrite_plain {off : Offset} (h : off.toNat / 4 ≠ 3) (v : Word) (s : State) :
    execBusWrite off v s = .next ((writeReg (regAt off) v s).setOut .none) := by
  rw [execBusWrite, if_neg (mt (regAt_cmd_iff off).mp h)]

/-- A write that reaches CMD executes its word (R182). -/
theorem execBusWrite_cmd {off : Offset} (h : off.toNat / 4 = 3) (v : Word) (s : State) :
    execBusWrite off v s = execute v s := by
  rw [execBusWrite, if_pos ((regAt_cmd_iff off).mpr h)]

/-- A byte written to TXSTAGE, and the bytes beside it. -/
theorem stageByte_write (s : State) (i : Nat) (b : Byte) (j : Nat) :
    (s.setStage (Memory.write s.stage i b)).stageByte j = if i = j then b else s.stageByte j :=
  Memory.read_write _ _ _ _ _

end Sys2Proof.Machine
end

