-- ==== Sys2Proof/Laws/Run.lean ====
section
/-!
SUPPORT. Runs of byte exchanges: one exchange at a time, and two runs end to end.
-/

namespace Sys2Proof.Machine

/-- A cursor that is not at its end counts on by one. -/
theorem toNat_succ {c : Cursor} (h : c.toNat < 511) : (c + 1#9).toNat = c.toNat + 1 := by
  simp only [BitVec.toNat_add, BitVec.toNat_ofNat]
  omega

/-- An enabled exchange leaves the build, the control bits and everything outside the framer as it is (R165). -/
theorem exchange_eq (s : State) (b : Byte) :
    (s.advanceTx.receive b).setOut (.sent s.txOut) =
      (((s.setRx (s.advanceTx.receive b).rx).setTx s.advanceTx.tx).setFstat (s.advanceTx.receive b).fstat).setOut
        (.sent s.txOut) := by
  rw [State.receive_eq, State.advanceTx_eq]
  rfl

/-- A run with the link enabled takes its first byte by one exchange, and sends that exchange's byte first. -/
theorem runLink_cons {s : State} (h : s.ctrl.linkEn = true) (b : Byte) (bs : List Byte) :
    runLink (b :: bs) s =
      ((runLink bs ((s.advanceTx.receive b).setOut (.sent s.txOut))).1,
        s.txOut :: (runLink bs ((s.advanceTx.receive b).setOut (.sent s.txOut))).2) := by
  simp only [runLink, exec, execLinkByte_enabled h]
  rfl

/-- A run of exchanges changes neither the build nor the control bits. -/
theorem runLink_frame {s : State} (h : s.ctrl.linkEn = true) (bs : List Byte) :
    (runLink bs s).1.ctrl = s.ctrl ∧ (runLink bs s).1.build = s.build := by
  induction bs generalizing s with
  | nil => exact ⟨rfl, rfl⟩
  | cons b bs ih =>
    rw [runLink_cons h, exchange_eq]
    exact ih (by exact h)

/-- Two runs end to end are one run. -/
theorem runLink_append {s : State} (h : s.ctrl.linkEn = true) (as bs : List Byte) :
    (runLink (as ++ bs) s).1 = (runLink bs (runLink as s).1).1 := by
  induction as generalizing s with
  | nil => rfl
  | cons a as ih =>
    rw [List.cons_append, runLink_cons h, runLink_cons h]
    refine ih ?_
    rw [exchange_eq]
    exact h

end Sys2Proof.Machine
end

