-- ==== Sys2Proof/Tests/Slice0.lean ====
section
/-!
SUPPORT. The model's own tests. Expected values are those of the spec: the id of a vector of 95_test_vectors.md, or the
rule whose example or table gives the value, stands before each test. Then, for every statement with hypotheses, a state
and operands that meet them.
-/

namespace Sys2Proof.Tests

open Sys2Proof.Machine

/-! ## Small states -/

/-- Reset with LINK_EN = 1. -/
def onLink : State := State.reset.setCtrl ⟨true, false, false⟩

/-- The link on, and the bytes `bytes` of a frame received so far. -/
def receiving (bytes : List Byte) (expected : Cursor) : State :=
  onLink.setRx
    { buffer := Memory.writeBytes [] 0 bytes, index := BitVec.ofNat 9 bytes.length, expectedLength := expected,
      dataReady := false }

/-- The link on, and a received frame held. -/
def holding (frame : List Byte) (index : Cursor) : State :=
  onLink.setRx { buffer := Memory.writeBytes [] 0 frame, index := index, expectedLength := 4#9, dataReady := true }

/-- The link on, and a frame being sent. -/
def sending (frame : List Byte) (index : Cursor) : State :=
  onLink.setTx
    { buffer := Memory.writeBytes [] 0 frame, index := index, expectedLength := BitVec.ofNat 9 frame.length }

/-- Reset, with operands in KZ, KDDZ and KDT. -/
def operands (z ddz dt : Word) : State := State.reset.setKop ⟨z, ddz, dt⟩

/-- The block of V-K11: KF_Q = KF_R = KF_P0 = 0. -/
def zeroNoise : Build := { Build.default with kfQ := 0#32, kfR := 0#32, kfP0 := 0#32 }

/-- A frame with TYPE 07 and no payload (V-F6). -/
def emptyFrame : List Byte := [0xFF#8, 0xFF#8, 0x07#8, 0x00#8, 0x00#8, 0x07#8]

/-- The frame of V-C4. -/
def frame : List Byte := [0xFF#8, 0xFF#8, 0x05#8, 0x02#8, 0x12#8, 0x34#8, 0x00#8, 0x4D#8]

/-- A view of the next state, if there is one. -/
def after {α : Type} (o : Host.Outcome State Fault Refusal) (view : State → α) : Option α :=
  match o with
  | .next t => some (view t)
  | .fault _ => none
  | .refused _ => none

/-! ## Well-formedness -/

/-- A legal command word at offset 0x00C is spelled as its command (log 9). -/
theorem test_wellFormed_refuses :
    Instr.wellFormed (.busWrite 0x00C#12 0x00020501#32) = false ∧
    Instr.wellFormed (.busWrite 0x00C#12 0x00000011#32) = false ∧
    Instr.wellFormed (.busWrite 0x00C#12 0x01000001#32) = true ∧
    Instr.wellFormed (.busWrite 0x00C#12 0x00000004#32) = true ∧
    Instr.wellFormed (.busWrite 0x00F#12 0x00020501#32) = true := by decide

/-! ## Decoding: words written out from R104 and R105, bit 31 first -/

theorem test_decode_nop : decode (.hostWrite 0x00C#12 0b00000000111111111111111100000000#32) = .nop 0xFF#8 0xFF#8 := by decide
theorem test_decode_send : decode (.hostWrite 0x00C#12 0b00000000000000100000010100000001#32) = .send 0x05#8 0x02#8 := by decide
theorem test_decode_consume : decode (.hostWrite 0x00C#12 0b00000000000000000000000000000010#32) = .consume 0x00#8 0x00#8 := by decide
theorem test_decode_resetLink : decode (.hostWrite 0x00C#12 0b00000000000000000000000000000011#32) = .resetLink 0x00#8 0x00#8 := by decide
theorem test_decode_kfReset : decode (.hostWrite 0x00C#12 0b00000000000000000000000000010000#32) = .kfReset 0x00#8 0x00#8 := by decide
theorem test_decode_kfApply : decode (.hostWrite 0x00C#12 0b00000000100000000000000100010001#32) = .kfApply 0x01#8 0x80#8 := by decide
theorem test_decode_busRead : decode (.hostRead 0b100000001100#12) = .busRead 0x80C#12 := by decide
theorem test_decode_busWrite : decode (.hostWrite 0b000000000100#12 0x00000001#32) = .busWrite 0x004#12 0x00000001#32 := by decide
theorem test_decode_linkByte : decode (.linkByte 0b11001000#8) = .linkByte 0xC8#8 := by decide

/-- R106 before R107 (R256, item 3), and both by name. -/
theorem test_decode_rejects :
    decodeCommand 0x010000FF#32 = .error .reservedBits ∧ decodeCommand 0x00000004#32 = .error .unassignedOpcode ∧
    decodeCommand 0x0000000F#32 = .error .unassignedOpcode ∧ decodeCommand 0x00000012#32 = .error .unassignedOpcode := by
  decide

/-- The table's numbering (log 8). -/
theorem test_decodeTableWord :
    decodeTableWord 32 0x00020501 = some (.send 0x05#8 0x02#8) ∧ decodeTableWord 16 0x80C = some (.busRead 0x80C#12) ∧
    decodeTableWord 8 0xC8 = some (.linkByte 0xC8#8) ∧ decodeTableWord 24 0 = none := by decide

/-! ## One step of each instruction -/

/-- V-S1, V-S2 -/
theorem test_nop : after (exec (.nop 0xFF#8 0x00#8) (State.reset.setResult 0xFF#8 .illegal)) (busValue 0x00C#12) = some 0#32 := by decide

/-- V-S6 -/
theorem test_send :
    after (exec (.send 0x05#8 0x02#8) (State.reset.setStage [(0, 0x12#8), (1, 0x34#8)]))
      (fun t => (busValue 0x00C#12 t, busValue 0x014#12 t, busValue 0x008#12 t, (List.range 8).map t.txByte)) =
    some (0x00000001#32, 0x00080000#32, 0x00000002#32, frame) := by decide

/-- V-S8: BUSY comes before the length check; V-S9 -/
theorem test_send_refused :
    after (exec (.send 0x00#8 0xFF#8) (sending emptyFrame 0#9)) (fun t => (busValue 0x00C#12 t, busValue 0x008#12 t)) =
      some (0x00000201#32, 0x00000802#32) ∧
    after (exec (.send 0x05#8 0x3B#8) State.reset) (fun t => (busValue 0x00C#12 t, busValue 0x008#12 t)) =
      some (0x00000301#32, 0x00000000#32) := by decide

/-- V-S11 -/
theorem test_consume :
    after (exec (.consume 0x00#8 0x00#8) (holding frame 0#9))
      (fun t => (busValue 0x00C#12 t, (List.range 8).map t.snapByte, t.rx.dataReady)) =
    some (0x00000002#32, frame, false) := by decide

/-- V-F7, V-B11 -/
theorem test_consume_nodata : after (exec (.consume 0x00#8 0x00#8) State.reset) (busValue 0x00C#12) = some 0x00000102#32 := by decide

/-- V-S14, P5 -/
theorem test_resetLink :
    after (exec (.resetLink 0x00#8 0x00#8) ((sending emptyFrame 3#9).raise .busy))
      (fun t => (busValue 0x00C#12 t, busValue 0x008#12 t, busValue 0x010#12 t, busValue 0x014#12 t)) =
    some (0x00000003#32, 0x00000800#32, 0x00040000#32, 0x00000000#32) := by decide

/-- V-K1, V-K13 -/
theorem test_kfReset :
    after (exec (.kfReset 0x00#8 0x00#8) (State.reset.raiseDterr.setKf ⟨1#32, 2#32, 3#32, 4#32, 5#32, 6#32, 7#32, 8#32⟩))
      (fun t => (busValue 0x00C#12 t, busValue 0x04C#12 t, t.kf)) =
    some (0x00000010#32, 0x00000004#32, ⟨0#32, 0#32, 0x00010000#32, 0#32, 0#32, 0x00010000#32, 0#32, 0#32⟩) := by decide

/-- V-K2 -/
theorem test_kfApply :
    after (exec (.kfApply 0x00#8 0x00#8) (operands 0x00640000#32 0#32 0x0000028F#32))
      (fun t => (busValue 0x00C#12 t, busValue 0x04C#12 t, t.kf)) =
    some (0x00000011#32, 0#32, ⟨0x003461C4#32, 0x0000797C#32, 0x0000861B#32, 0x00000138#32, 0x00000139#32, 0x00011997#32,
      0x00640000#32, 0x0000797C#32⟩) := by decide

/-- V-K10: the first overflow wraps and the command goes on -/
theorem test_kfApply_overflow :
    after (exec (.kfApply 0x00#8 0x00#8) (operands 0#32 0#32 0x7FFFFFFF#32))
      (fun t => (busValue 0x00C#12 t, busValue 0x04C#12 t, t.kf)) =
    some (0x00000011#32, 1#32, ⟨0#32, 0#32, 0x00001747#32, 0x745D0000#32, 0x745CECF5#32, 0x89878DF7#32, 0#32, 0#32⟩) := by
  decide

/-- V-B1, V-B8 -/
theorem test_busRead :
    after (exec (.busRead 0x001#12) State.reset) State.out = some (.readData 0x204000FF#32) ∧
    after (exec (.busRead 0x900#12) State.reset) State.out = some (.readData 0#32) := by decide

/-- V-B6, V-B7 -/
theorem test_busWrite :
    after (exec (.busWrite 0x4E4#12 0x000001AB#32) State.reset) (busValue 0x4E4#12) = some 0x000000AB#32 ∧
    after (exec (.busWrite 0x4E8#12 0x00000055#32) State.reset) (busValue 0x4E8#12) = some 0#32 := by decide

/-- V-S5, V-B5: a misaligned write to CMD executes, and an illegal word loads nothing -/
theorem test_busWrite_cmd :
    after (exec (.busWrite 0x00E#12 0x01000001#32) State.reset) (fun t => (busValue 0x00C#12 t, busValue 0x014#12 t)) =
      some (0x00000401#32, 0#32) ∧
    after (exec (.busWrite 0x00F#12 0x00000701#32) State.reset) (fun t => (busValue 0x00C#12 t, busValue 0x014#12 t)) =
      some (0x00000001#32, 0x00060000#32) := by decide

/-- The last byte of P1, while the block sends byte 2 of a frame of its own (V-F9) -/
theorem test_linkByte_valid :
    after (exec (.linkByte 0x4D#8) ((receiving (frame.take 7) 8#9).setTx (sending emptyFrame 2#9).tx))
      (fun t => (t.out, busValue 0x008#12 t, busValue 0x010#12 t, busValue 0x014#12 t)) =
    some (.sent 0x07#8, 0x00000003#32, 0x00040000#32, 0x00060003#32) := by decide

/-- V-F4b: the second mark of a new frame, over an unconsumed one -/
theorem test_linkByte_overrun :
    after (exec (.linkByte 0xFF#8) (holding frame 1#9)) (fun t => (busValue 0x008#12 t, busValue 0x010#12 t)) =
    some (0x00000408#32, 0x00040002#32) := by decide

/-! ## The codec and the fixed-point primitives -/

/-- V-C4, V-C5, V-C7, V-C12, V-C13, V-C16 -/
theorem test_codec :
    encodeFrame 0xFF#8 0x05#8 [0x12#8, 0x34#8] = frame ∧
    decodeFrame frame = .ok (0x05#8, [0x12#8, 0x34#8]) ∧
    decodeFrame (frame.set 4 0x13#8) = .error .checksumError ∧
    decodeFrame (frame.take 7) = .error .framingError ∧
    decodeFrame (frame.set 3 0x03#8) = .error .framingError ∧
    decodeFrame ([0x00#8, 0x00#8] ++ frame.drop 2) = .ok (0x05#8, [0x12#8, 0x34#8]) := by decide

/-- V-P1, V-P2, V-P4, V-P7, V-P8 -/
theorem test_fixed_add_mul :
    fadd 0x7FFFFFFF#32 0x00000001#32 = ⟨0x80000000#32, true, false⟩ ∧
    fsub 0x00000000#32 0x80000000#32 = ⟨0x80000000#32, true, false⟩ ∧
    fmul 16 0xFFFFFFFF#32 0x00000001#32 = ⟨0xFFFFFFFF#32, false, false⟩ ∧
    fmul 16 0xFFFE8000#32 0x00018000#32 = ⟨0xFFFDC000#32, false, false⟩ ∧
    fmul 16 0x01000000#32 0x01000000#32 = ⟨0x00000000#32, true, false⟩ := by decide

/-- V-P9, V-P10, V-P11, V-P13, V-P14 -/
theorem test_fixed_div :
    fdiv 16 0x000119A0#32 0x000219A0#32 = ⟨0x00008619#32, false, false⟩ ∧
    fdiv 16 0xFFFF0000#32 0x00030000#32 = ⟨0xFFFFAAAB#32, false, false⟩ ∧
    fdiv 16 0xFFFFFFFF#32 0x00030000#32 = ⟨0x00000000#32, false, false⟩ ∧
    fdiv 16 0x00010000#32 0x00000000#32 = ⟨0x00000000#32, false, true⟩ ∧
    fdiv 16 0x80000000#32 0xFFFF0000#32 = ⟨0x80000000#32, true, false⟩ := by decide

/-! ## The interface -/

/-- A command placed as the next input runs as the next step (log 4). -/
theorem test_withFetchWord :
    after (Sys2Proof.core.step (State.reset.withFetchWord 32 0x00000701)) (fun t => (busValue 0x014#12 t, t.pending)) =
    some (0x00060000#32, []) := by decide

/-- V-B1 after power-on reset in the middle of a run, and an illegal build refused (I20) -/
theorem test_step_reset_and_refusal :
    after (step ((sending emptyFrame 2#9).setPending [.powerOnReset])) (fun t => (busValue 0x004#12 t, busValue 0x014#12 t)) =
      some (0#32, 0#32) ∧
    step { State.reset with build := { Build.default with fill := 0xFF#8 } } = .refused .illegalBuild := by
  exact ⟨by decide, rfl⟩

/-! ## The hypotheses of the statements can be met -/

theorem test_inv_onLink : onLink.Inv where
  build := by decide
  rxCursors := by unfold State.RxCursorsOk; decide
  rxHeader := by unfold State.RxHeaderOk; decide
  dataReady := by unfold State.DataReadyOk; intro h; cases h
  txCursors := by unfold State.TxCursorsOk; decide
  buffers := by unfold State.BuffersOk; decide

theorem test_inv_holding : (holding frame 0#9).Inv ∧ (holding frame 1#9).Inv := by
  refine ⟨⟨by decide, ?_, ?_, ?_, ?_, ?_⟩, ⟨by decide, ?_, ?_, ?_, ?_, ?_⟩⟩ <;>
    first
    | (unfold State.RxCursorsOk; decide)
    | (unfold State.RxHeaderOk; decide)
    | (unfold State.DataReadyOk State.HoldsValidFrame; decide)
    | (unfold State.TxCursorsOk; decide)
    | (unfold State.BuffersOk; decide)

/-- A frame of no payload, all but its last byte received. -/
theorem test_inv_receiving : (receiving (emptyFrame.take 5) 6#9).Inv := by
  refine ⟨by decide, ?_, ?_, ?_, ?_, ?_⟩
  · unfold State.RxCursorsOk; decide
  · unfold State.RxHeaderOk; decide
  · unfold State.DataReadyOk; intro h; cases h
  · unfold State.TxCursorsOk; decide
  · unfold State.BuffersOk; decide

theorem test_witness_EncodedInstructionDecodesToItself :
    Instr.wellFormed (.send 0xFF#8 0xFF#8) = true ∧ Instr.wellFormed (.busWrite 0x00C#12 0x00000012#32) = true ∧
    Instr.wellFormed (.busWrite 0x00D#12 0x00000011#32) = true := by decide

/-- Reserved bits; an opcode on each side of the map's gaps; each end of the map. -/
theorem test_witness_CommandWordIsDecodedByItsFields :
    (0x01000000#32).toNat / 0x1000000 ≠ 0 ∧
    ((0x00FFFF04#32).toNat / 0x1000000 = 0 ∧ ∀ op : Opcode, (0x00FFFF04#32).toNat % 0x100 ≠ op.code.toNat) ∧
    ((0x00000012#32).toNat / 0x1000000 = 0 ∧ ∀ op : Opcode, (0x00000012#32).toNat % 0x100 ≠ op.code.toNat) ∧
    ((0x00FFFF11#32).toNat / 0x1000000 = 0 ∧ (0x00FFFF11#32).toNat % 0x100 = (Opcode.code .kfApply).toNat) ∧
    ((0x00000000#32).toNat / 0x1000000 = 0 ∧ (0x00000000#32).toNat % 0x100 = (Opcode.code .nop).toNat) := by
  refine ⟨by decide, ⟨by decide, ?_⟩, ⟨by decide, ?_⟩, by decide, by decide⟩ <;> intro op <;> cases op <;> decide

theorem test_witness_PseudoInstructionsExpandToTheirOperations :
    ((Pseudo.stage 0 0x12#32).expand 0xFF#8).map decode = [.busWrite 0x400#12 0x12#32] ∧ regAt 0x400#12 = .txstage 0 ∧
    ((Pseudo.stage 254 0x12#32).expand 0xFF#8).map decode = [.busWrite 0x7F8#12 0x12#32] ∧
    regAt 0x7F8#12 = .txstage 254 := by decide

theorem test_witness_StepRunsTheOldestAgentStep :
    State.reset.build.legal = true ∧ State.reset.pending = [] ∧
    (State.reset.pushStep (.linkByte 0xFF#8)).pending = .agent (.linkByte 0xFF#8) :: [] := by decide

theorem test_witness_PowerOnResetPutsEveryElementAtItsValue :
    (onLink.setPending [.powerOnReset]).build.legal = true ∧
    (onLink.setPending [.powerOnReset]).pending = .powerOnReset :: [] := by decide

theorem test_witness_BlockNeverStops : State.reset.build.legal = true ∧ zeroNoise.legal = true := by decide

theorem test_witness_ChecksumIsTheExactByteSum :
    ([] : List Byte).length = (0x00#8).toNat ∧ (List.replicate 255 0xFF#8).length = (0xFF#8).toNat ∧
    Build.legal { Build.default with cap := 261 } = true ∧
    (List.replicate 58 0xFF#8).length = (0x3A#8).toNat ∧ (List.replicate 58 0xFF#8).length ≤ Build.default.pmax :=
  ⟨rfl, List.length_replicate, by decide, List.length_replicate, by decide⟩

theorem test_witness_EncodedFrameLayout : ([] : List Byte).length ≤ 255 ∧ (List.replicate 255 0xFF#8).length ≤ 255 :=
  ⟨by decide, le_of_eq List.length_replicate⟩

/-- V-C11, V-C12, V-C14 (a mismatch) and V-C15 (a match, and a byte past the frame). -/
theorem test_witness_DecodeChecksInOrder :
    (frame.take 3).length < 4 ∧
    (frame.take 7 = 0xFF#8 :: 0xFF#8 :: 0x05#8 :: 0x02#8 :: [0x12#8, 0x34#8, 0x00#8] ∧
      (frame.take 7).length < 6 + (0x02#8).toNat) ∧
    (frame.set 3 0x00#8 = 0xFF#8 :: 0xFF#8 :: 0x05#8 :: 0x00#8 :: ([] ++ 0x12#8 :: 0x34#8 :: [0x00#8, 0x4D#8]) ∧
      (0x12#8).toNat * 256 + (0x34#8).toNat ≠ ((0x05#8).toNat + (0x00#8).toNat + 0) % 65536) ∧
    (frame ++ [0xAA#8] =
        0xFF#8 :: 0xFF#8 :: 0x05#8 :: 0x02#8 :: ([0x12#8, 0x34#8] ++ 0x00#8 :: 0x4D#8 :: [0xAA#8]) ∧
      (0x00#8).toNat * 256 + (0x4D#8).toNat =
        ((0x05#8).toNat + (0x02#8).toNat + ([0x12#8, 0x34#8].map BitVec.toNat).sum) % 65536) := by decide

theorem test_witness_DecodeOfEncodeGivesTheFrameBack : (List.replicate 255 0xFF#8).length ≤ 255 :=
  le_of_eq List.length_replicate

/-- V-C7, V-C8 and V-C9's bytes: positions 1, 2, 4 and the last one, 7. -/
theorem test_witness_SingleBitCorruptionIsDetected :
    [0x12#8, 0x34#8].length ≤ 255 ∧ 7 < 8 ∧ 1 < 6 + [0x12#8, 0x34#8].length ∧ 2 < 6 + [0x12#8, 0x34#8].length ∧
    (4 ≤ 4 ∧ 4 < 6 + [0x12#8, 0x34#8].length) ∧ (4 ≤ 7 ∧ 7 < 6 + [0x12#8, 0x34#8].length) := by decide

/-- V-C17 -/
theorem test_witness_ChecksumIgnoresOrderAndCompensation :
    [0x12#8, 0x34#8].Perm [0x34#8, 0x12#8] ∧
    (0x12#8).toNat + (0x34#8).toNat = (0x11#8).toNat + (0x35#8).toNat := by decide

theorem test_witness_DisabledLinkChangesNothing : State.reset.ctrl.linkEn = false := by decide

/-- A pending frame at its last byte, and an idle transmitter. -/
theorem test_witness_EnabledExchangeTransmits :
    ((sending emptyFrame 5#9).ctrl.linkEn = true ∧ (sending emptyFrame 5#9).tx.index < (sending emptyFrame 5#9).tx.expectedLength) ∧
    (onLink.ctrl.linkEn = true ∧ ¬ onLink.tx.index < onLink.tx.expectedLength) := by decide

theorem test_witness_AwaitingTheFirstMark :
    onLink.ctrl.linkEn = true ∧ onLink.rx.index = 0#9 ∧ 0xFF#8 = onLink.build.mark ∧ 0x12#8 ≠ onLink.build.mark := by decide

theorem test_witness_AwaitingTheSecondMark :
    (holding frame 1#9).ctrl.linkEn = true ∧ (holding frame 1#9).rx.index = 1#9 ∧
    0xFF#8 = (holding frame 1#9).build.mark ∧ 0x00#8 ≠ (holding frame 1#9).build.mark := by decide

/-- V-F5a, V-F5b: PMAX and PMAX + 1 -/
theorem test_witness_ReadingTheLength :
    let s := receiving (frame.take 3) 4#9
    s.build.legal = true ∧ s.ctrl.linkEn = true ∧ s.rx.index = 3#9 ∧ s.build.cap < 6 + (0x3B#8).toNat ∧
    6 + (0x3A#8).toNat ≤ s.build.cap := by decide

/-- TYPE, the first payload position and the last one before the frame's last byte. -/
theorem test_witness_TypeAndPayloadBytesAreStored :
    (receiving (frame.take 2) 4#9).ctrl.linkEn = true ∧ (receiving (frame.take 2) 4#9).rx.index = 2#9 ∧
    (4 ≤ (receiving (frame.take 4) 8#9).rx.index.toNat ∧
      (receiving (frame.take 4) 8#9).rx.index.toNat + 1 < (receiving (frame.take 4) 8#9).rx.expectedLength.toNat) ∧
    (4 ≤ (receiving (frame.take 6) 8#9).rx.index.toNat ∧
      (receiving (frame.take 6) 8#9).rx.index.toNat + 1 < (receiving (frame.take 6) 8#9).rx.expectedLength.toNat) := by decide

/-- The last byte of the shortest frame; with 07 it matches, with 08 it does not (V-F6b). -/
theorem test_witness_ValidatingTheFrame :
    let s := receiving (emptyFrame.take 5) 6#9
    s.ctrl.linkEn = true ∧ 4 ≤ s.rx.index.toNat ∧ s.rx.index.toNat + 1 = s.rx.expectedLength.toNat ∧
    after (exec (.linkByte 0x07#8) s) (fun t => decide ((t.rxByte 4).toNat * 256 + (t.rxByte 5).toNat = (t.rxByte 2).toNat)) =
      some true ∧
    after (exec (.linkByte 0x08#8) s) (fun t => decide ((t.rxByte 4).toNat * 256 + (t.rxByte 5).toNat = (t.rxByte 2).toNat)) =
      some false := by decide

theorem test_witness_ReceiverAgreesWithDecode :
    let s := receiving (emptyFrame.take 5) 6#9
    s.Inv ∧ s.ctrl.linkEn = true ∧ 4 ≤ s.rx.index.toNat ∧ s.rx.index.toNat + 1 = s.rx.expectedLength.toNat :=
  ⟨test_inv_receiving, by decide, by decide, by decide⟩

/-- V-F4b: OVR raised, and the frame armed -/
theorem test_witness_OneConditionPerExchange :
    ∃ t, exec (.linkByte 0xFF#8) (holding frame 1#9) = .next t ∧ (holding frame 1#9).fstat.ovr = false ∧ t.fstat.ovr = true :=
  ⟨_, rfl, by decide, by decide⟩

/-- FERR (V-F3, V-F14a) and CERR (a wrong last byte) -/
theorem test_witness_ErrorResetTouchesOnlyCursorsAndFlag :
    ((receiving [0xFF#8] 4#9).RxCursorsOk ∧
      ∃ t, exec (.linkByte 0x00#8) (receiving [0xFF#8] 4#9) = .next t ∧
        (receiving [0xFF#8] 4#9).fstat.ferr = false ∧ t.fstat.ferr = true) ∧
    ((receiving (frame.take 3) 4#9).RxCursorsOk ∧
      ∃ t, exec (.linkByte 0xC8#8) (receiving (frame.take 3) 4#9) = .next t ∧
        (receiving (frame.take 3) 4#9).fstat.ferr = false ∧ t.fstat.ferr = true) ∧
    ((receiving (emptyFrame.take 5) 6#9).RxCursorsOk ∧
      ∃ t, exec (.linkByte 0x08#8) (receiving (emptyFrame.take 5) 6#9) = .next t ∧
        (receiving (emptyFrame.take 5) 6#9).fstat.cerr = false ∧ t.fstat.cerr = true) := by
  refine ⟨⟨?_, _, rfl, by decide, by decide⟩, ⟨?_, _, rfl, by decide, by decide⟩, ⟨?_, _, rfl, by decide, by decide⟩⟩ <;>
    unfold State.RxCursorsOk <;> decide

/-- Two different states that agree on one side; the first pair differs in BUSY too. -/
theorem test_witness_TransmitAndReceiveShareNoState :
    (let t := (sending emptyFrame 2#9).raise .busy
     onLink.build = t.build ∧ onLink.resets = t.resets ∧ onLink.rx = t.rx ∧ onLink.fstat.ferr = t.fstat.ferr ∧
       onLink.fstat.cerr = t.fstat.cerr ∧ onLink.fstat.ovr = t.fstat.ovr ∧ onLink.fstat.busy ≠ t.fstat.busy) ∧
    (onLink.build = (holding frame 1#9).build ∧ onLink.resets = (holding frame 1#9).resets ∧
      onLink.tx = (holding frame 1#9).tx) := by decide

theorem test_witness_SentFrameDrainsInOrder :
    onLink.build.legal = true ∧ onLink.ctrl.linkEn = true ∧ onLink.txPending = false ∧
    6 + (0x3A#8).toNat ≤ onLink.build.cap ∧ (List.replicate 64 0x00#8).length = 6 + (0x3A#8).toNat := by decide

/-- V-F8's false start, before a frame of PMAX bytes. -/
theorem test_witness_FrameIsReceivedAfterFalseStart :
    onLink.Inv ∧ onLink.ctrl.linkEn = true ∧ onLink.rx.index = 0#9 ∧ 0x00#8 ≠ onLink.build.mark ∧
    (∀ x ∈ [0x12#8, 0x55#8], x ≠ onLink.build.mark) ∧ (List.replicate 58 0xFF#8).length ≤ onLink.build.pmax :=
  ⟨test_inv_onLink, by decide, by decide, by decide, by decide, by decide⟩

/-- The CONSUME right after the first frame, and after the second one's first mark (V-F10). -/
theorem test_witness_BackToBackFramesAreDelivered :
    onLink.Inv ∧ onLink.ctrl.linkEn = true ∧ onLink.rx.index = 0#9 ∧ [0x12#8, 0x34#8].length ≤ onLink.build.pmax ∧
    ([] : List Byte).length ≤ onLink.build.pmax ∧
    (encodeFrame onLink.build.mark 0x07#8 [] = [] ++ emptyFrame ∧ ([] : List Byte).length ≤ 1) ∧
    (encodeFrame onLink.build.mark 0x07#8 [] = [0xFF#8] ++ emptyFrame.drop 1 ∧ [0xFF#8].length ≤ 1) :=
  ⟨test_inv_onLink, by decide, by decide, by decide, by decide, by decide, by decide⟩

theorem test_witness_FrameTravelsBetweenTwoBlocks :
    onLink.Inv ∧ (holding frame 0#9).Inv ∧ onLink.build.mark = (holding frame 0#9).build.mark ∧
    onLink.ctrl.linkEn = true ∧ (holding frame 0#9).ctrl.linkEn = true ∧ onLink.txPending = false ∧
    (holding frame 0#9).rx.index = 0#9 ∧ 6 + (0x3A#8).toNat ≤ onLink.build.cap ∧
    6 + (0x3A#8).toNat ≤ (holding frame 0#9).build.cap ∧ (List.replicate 64 0x00#8).length = 6 + (0x3A#8).toNat :=
  ⟨test_inv_onLink, test_inv_holding.1, by decide, by decide, by decide, by decide, by decide, by decide, by decide, by decide⟩

theorem test_witness_EveryStepKeepsInvariant : onLink.Inv ∧ ∃ t, step onLink = .next t := ⟨test_inv_onLink, _, rfl⟩

theorem test_witness_ResetHasInvariant : Build.default.legal = true ∧ zeroNoise.legal = true := by decide

/-- A held frame, and the second mark that ends it. -/
theorem test_witness_HeldFrameIsUnchangedUntilConsumed :
    ((holding frame 0#9).Inv ∧ (holding frame 0#9).rx.dataReady = true) ∧
    (holding frame 1#9).Inv ∧ (holding frame 1#9).rx.dataReady = true ∧
    ∃ t, exec (.linkByte 0xFF#8) (holding frame 1#9) = .next t ∧ t.rx.dataReady = false :=
  ⟨⟨test_inv_holding.1, rfl⟩, test_inv_holding.2, rfl, _, rfl, by decide⟩

/-- Every sticky bit set, and the two writes that clear them all (R111, clr_fstat and clr_kstat). -/
theorem test_witness_StickyBitsAreClearedOnlyByWritingOne :
    let s := (State.reset.setFstat ⟨true, true, true, true⟩).setKstat ⟨true, true, true⟩
    (∃ t, exec (.busWrite 0x008#12 0x00000F00#32) s = .next t ∧ t.fstat = ⟨false, false, false, false⟩) ∧
    ∃ t, exec (.busWrite 0x04C#12 0x00000007#32) s = .next t ∧ t.kstat = ⟨false, false, false⟩ :=
  ⟨⟨_, rfl, by decide⟩, _, rfl, by decide⟩

theorem test_witness_OnlyTheirOwnOperationsChangeKalmanSnapAndStage :
    (∃ t, exec (.kfReset 0x00#8 0x00#8) (State.reset.setKf ⟨1#32, 2#32, 3#32, 4#32, 5#32, 6#32, 7#32, 8#32⟩) = .next t ∧
      t.kf.x0 ≠ 1#32) ∧
    (∃ t, exec (.consume 0x00#8 0x00#8) (holding frame 0#9) = .next t ∧ t.snap ≠ []) ∧
    ∃ t, exec (.busWrite 0x4E7#12 0x000000AB#32) State.reset = .next t ∧ t.stage ≠ [] := by
  refine ⟨⟨_, rfl, by decide⟩, ⟨_, rfl, ?_⟩, _, rfl, by decide⟩
  intro h
  exact absurd (congrArg (fun m => (Memory.written m 0).isSome) h) (by decide)

/-- The receive source cleared in each of its three ways, and the transmit source in its one. -/
theorem test_witness_InterruptSourcesAreClearedByTheirCauses :
    (holding frame 1#9).rx.dataReady = true ∧
    after (exec (.consume 0x00#8 0x00#8) (holding frame 1#9)) (fun t => t.rx.dataReady) = some false ∧
    after (exec (.resetLink 0x00#8 0x00#8) (holding frame 1#9)) (fun t => t.rx.dataReady) = some false ∧
    after (exec (.linkByte 0xFF#8) (holding frame 1#9)) (fun t => t.rx.dataReady) = some false ∧
    State.reset.txPending = false ∧
    after (exec (.send 0x07#8 0x00#8) State.reset) State.txPending = some true := by decide

theorem test_witness_FramerRegistersReadTheirFields : State.reset.build.legal = true ∧ zeroNoise.legal = true := by decide

/-- Both windows at both ends. -/
theorem test_witness_ByteWindowsReadTheirBytes :
    (0 ≤ 254 ∧ (0x400#12).toNat = 0x400 + 4 * 0) ∧ (254 ≤ 254 ∧ (0x7F8#12).toNat = 0x400 + 4 * 254) ∧
    (0 ≤ 260 ∧ (0x800#12).toNat = 0x800 + 4 * 0) ∧ (260 ≤ 260 ∧ (0xC10#12).toNat = 0x800 + 4 * 260) := by decide

/-- The first and last offset of each range; TXSTAGE[58] and SNAP[64] are the first words past PMAX and CAP (V-B7, V-B8). -/
theorem test_witness_UnmappedAndReadOnlyOffsetsIgnoreWrites :
    ([0x018#12, 0x03F#12, 0x070#12, 0x3FF#12, 0x7FC#12, 0x7FF#12, 0xC14#12, 0xFFF#12].map regAt) =
      List.replicate 8 Reg.unmapped ∧
    ([0x4E8#12, 0x7FB#12, 0x900#12, 0xC13#12].map regAt) = [.txstage 58, .txstage 254, .snap 64, .snap 260] ∧
    0x400 + 4 * State.reset.build.pmax = (0x4E8#12).toNat ∧ 0x800 + 4 * State.reset.build.cap = (0x900#12).toNat ∧
    ([0x000#12, 0x003#12, 0x010#12, 0x017#12, 0x050#12, 0x06F#12, 0x800#12].map regAt) =
      [.cfg, .cfg, .rxcur, .txcur, .kx0, .kdz, .snap 0] := by decide

theorem test_witness_OffsetLowBitsAreIgnored : (0x00C#12).toNat / 4 = (0x00F#12).toNat / 4 := by decide

theorem test_witness_StageWriteStoresOneByte :
    State.reset.build.legal = true ∧ (0 < State.reset.build.pmax ∧ (0x400#12).toNat = 0x400 + 4 * 0) ∧
    (57 < State.reset.build.pmax ∧ (0x4E4#12).toNat = 0x400 + 4 * 57) := by decide

theorem test_witness_CmdWriteRunsItsCommand :
    (0x00C#12).toNat / 4 = 3 ∧ (0x00F#12).toNat / 4 = 3 ∧
    decodeCommand 0x00020501#32 = .ok { op := .send, a := 0x05#8, b := 0x02#8 } := by decide

/-- V-S3, V-S4, V-S5 -/
theorem test_witness_IllegalCommandChangesOnlyResult :
    (0x00C#12).toNat / 4 = 3 ∧ (0x01000001#32).toNat / 0x1000000 ≠ 0 ∧
    (0x00000004#32).toNat % 0x100 ∉ [0x00, 0x01, 0x02, 0x03, 0x10, 0x11] ∧
    (0x000000FF#32).toNat % 0x100 ∉ [0x00, 0x01, 0x02, 0x03, 0x10, 0x11] := by decide

/-- Pending at the last byte; idle with PMAX + 1; idle with PMAX. -/
theorem test_witness_SendIsBusyRejectedOrLoadsTheFrame :
    (sending emptyFrame 5#9).build.legal = true ∧
    (sending emptyFrame 5#9).tx.index < (sending emptyFrame 5#9).tx.expectedLength ∧
    ¬ (sending emptyFrame 6#9).tx.index < (sending emptyFrame 6#9).tx.expectedLength ∧
    (sending emptyFrame 6#9).build.cap < 6 + (0x3B#8).toNat ∧ 6 + (0x3A#8).toNat ≤ (sending emptyFrame 6#9).build.cap := by
  decide

theorem test_witness_ConsumeCopiesAndClears :
    (holding frame 0#9).rx.dataReady = true ∧ (receiving (frame.take 3) 4#9).rx.dataReady = false := by decide

theorem test_witness_FixedDivTruncates : 0#32 = 0#32 ∧ 0xFFFFFFFF#32 ≠ 0#32 ∧ 1#32 ≠ 0#32 := by decide

/-- V-K5, V-K6, V-K7 -/
theorem test_witness_KfApplyRejectsNonPositiveDt :
    (operands 0#32 0#32 0#32).kop.kdt = 0#32 ∧ (operands 0#32 0#32 0x80000000#32).kop.kdt.msb = true ∧
    (operands 0#32 0#32 0xFFFFFFFF#32).kop.kdt.msb = true := by decide

/-- V-K8, V-K10: the least and the greatest `dt` -/
theorem test_witness_KfApplyRunsItsPrimitives :
    ((operands 0#32 0#32 1#32).kop.kdt ≠ 0#32 ∧ (operands 0#32 0#32 1#32).kop.kdt.msb = false) ∧
    ((operands 0#32 0#32 0x7FFFFFFF#32).kop.kdt ≠ 0#32 ∧ (operands 0#32 0#32 0x7FFFFFFF#32).kop.kdt.msb = false) := by
  decide

/-- V-K11 -/
theorem test_witness_KfApplyWithZeroDivisorKeepsThePrediction :
    let s := (State.afterPowerOn zeroNoise 0 []).setKop ⟨0x00050000#32, 0#32, 0x00010000#32⟩
    0 < s.kop.kdt.toInt ∧ (kfPredict s.build s.kf s.kop).p0m.val + s.build.kfR = 0#32 ∧
    after (exec (.kfApply 0x00#8 0x00#8) s) (fun t => busValue 0x04C#12 t) = some 2#32 := by decide

end Sys2Proof.Tests
end

section
/-!
SUPPORT. What one instruction can do, said once: the command an instruction runs, and every outcome of `exec` with its guard.
-/

namespace Sys2Proof.Machine

/-! ## Plain writes -/

/-- A write to TXSTAGE below PMAX stores one byte (R45). -/
theorem writeReg_txstage {s : State} {i : Nat} (h : i < s.build.pmax) (v : Word) :
    writeReg (.txstage i) v s = s.setStage (Memory.write s.stage i (v.setWidth 8)) := if_pos h

/-- A write to TXSTAGE past PMAX is ignored (R45). -/
theorem writeReg_txstage_of_ge {s : State} {i : Nat} (h : s.build.pmax ≤ i) (v : Word) :
    writeReg (.txstage i) v s = s := if_neg (Nat.not_lt.mpr h)

/-- A plain write reaches the control state, the sticky bits, the operand registers and `stage`, nothing else (R181). -/
theorem writeReg_eq (r : Reg) (v : Word) (s : State) :
    writeReg r v s =
      ((((s.setCtrl (writeReg r v s).ctrl).setFstat (writeReg r v s).fstat).setKop (writeReg r v s).kop).setKstat
        (writeReg r v s).kstat).setStage (writeReg r v s).stage := by
  cases r
  case txstage i =>
    rcases Nat.lt_or_ge i s.build.pmax with hi | hi
    · rw [writeReg_txstage hi]
      rfl
    · rw [writeReg_txstage_of_ge hi]
      cases s
      rfl
  all_goals
    cases s
    rfl

@[simp] theorem writeReg_build (r : Reg) (v : Word) (s : State) : (writeReg r v s).build = s.build := by
  rw [writeReg_eq]; rfl
@[simp] theorem writeReg_rx (r : Reg) (v : Word) (s : State) : (writeReg r v s).rx = s.rx := by rw [writeReg_eq]; rfl
@[simp] theorem writeReg_tx (r : Reg) (v : Word) (s : State) : (writeReg r v s).tx = s.tx := by rw [writeReg_eq]; rfl
@[simp] theorem writeReg_snap (r : Reg) (v : Word) (s : State) : (writeReg r v s).snap = s.snap := by
  rw [writeReg_eq]; rfl
@[simp] theorem writeReg_kf (r : Reg) (v : Word) (s : State) : (writeReg r v s).kf = s.kf := by rw [writeReg_eq]; rfl
@[simp] theorem writeReg_resets (r : Reg) (v : Word) (s : State) : (writeReg r v s).resets = s.resets := by
  rw [writeReg_eq]; rfl

/-- A plain write leaves `stage` as it was, but for one byte below PMAX (R26, R45). -/
theorem writeReg_stage_cases (r : Reg) (v : Word) (s : State) :
    (writeReg r v s).stage = s.stage ∨
      ∃ i, r = .txstage i ∧ i < s.build.pmax ∧ (writeReg r v s).stage = Memory.write s.stage i (v.setWidth 8) := by
  cases r
  case txstage i =>
    rcases Nat.lt_or_ge i s.build.pmax with hi | hi
    · exact .inr ⟨i, rfl, hi, by rw [writeReg_txstage hi, State.setStage_stage]⟩
    · exact .inl (congrArg State.stage (writeReg_txstage_of_ge hi v))
  all_goals exact .inl rfl

/-! ## Exchanges -/

@[simp] theorem State.receive_stage (s : State) (b : Byte) : (s.receive b).stage = s.stage := by
  rw [State.receive_eq]; rfl
@[simp] theorem State.receive_snap (s : State) (b : Byte) : (s.receive b).snap = s.snap := by rw [State.receive_eq]; rfl
@[simp] theorem State.receive_kf (s : State) (b : Byte) : (s.receive b).kf = s.kf := by rw [State.receive_eq]; rfl
@[simp] theorem State.receive_resets (s : State) (b : Byte) : (s.receive b).resets = s.resets := by
  rw [State.receive_eq]; rfl
@[simp] theorem State.advanceTx_stage (s : State) : s.advanceTx.stage = s.stage := by rw [State.advanceTx_eq]; rfl
@[simp] theorem State.advanceTx_snap (s : State) : s.advanceTx.snap = s.snap := by rw [State.advanceTx_eq]; rfl
@[simp] theorem State.advanceTx_kf (s : State) : s.advanceTx.kf = s.kf := by rw [State.advanceTx_eq]; rfl

/-! ## Commands -/

/-- The instruction runs the command `c`: it is spelled as `c`, or is a write of a word of `c` that reaches CMD (R182). -/
def Runs (c : Command) (i : Instr) : Prop :=
  i = c.toInstr ∨ ∃ off v, i = .busWrite off v ∧ regAt off = .cmd ∧ decodeCommand v = .ok c

/-- `Execute(v)` of a legal word is the command it decodes to (R182). -/
theorem execute_eq_exec {v : Word} {c : Command} (h : decodeCommand v = .ok c) (s : State) :
    execute v s = exec c.toInstr s := by
  obtain ⟨op, a, b⟩ := c
  unfold execute
  rw [h]
  cases op <;> rfl

/-- `Execute(v)` of an illegal word is R187. -/
theorem execute_eq_illegal {v : Word} {r : CommandReject} (h : decodeCommand v = .error r) (s : State) :
    execute v s = illegalCommand v s := by
  unfold execute
  rw [h]

/-! ## Every instruction -/

/-- The outcomes of an instruction, each with its guard and the state it leaves. -/
inductive Executed (i : Instr) (s t : State) : Prop
  /-- NOP (R183) -/
  | nop (c : Command) (hc : Runs c i) (hop : c.op = .nop) (e : t = s.finish 0x00#8 .ok)
  /-- SEND while a transmission is pending (R184) -/
  | sendBusy (c : Command) (hc : Runs c i) (hop : c.op = .send) (hp : s.txPending = true)
      (e : t = (s.raise .busy).finish 0x01#8 .busy)
  /-- SEND with LENGTH above PMAX (R184) -/
  | sendRejected (c : Command) (hc : Runs c i) (hop : c.op = .send) (hp : s.txPending = false)
      (hl : s.build.cap < 6 + c.b.toNat) (e : t = s.finish 0x01#8 .reject)
  /-- SEND accepted (R184) -/
  | sendLoaded (c : Command) (hc : Runs c i) (hop : c.op = .send) (hp : s.txPending = false)
      (hl : 6 + c.b.toNat ≤ s.build.cap)
      (e : t = (s.loadTx (encodeFrame s.build.mark c.a (s.stageSlice c.b.toNat))).finish 0x01#8 .ok)
  /-- CONSUME of a held frame (R185) -/
  | consumed (c : Command) (hc : Runs c i) (hop : c.op = .consume) (hd : s.rx.dataReady = true)
      (e : t = (s.takeSnapshot.setDataReady false).finish 0x02#8 .ok)
  /-- CONSUME with no frame held (R185) -/
  | noData (c : Command) (hc : Runs c i) (hop : c.op = .consume) (hd : s.rx.dataReady = false)
      (e : t = s.finish 0x02#8 .nodata)
  /-- RESET_LINK (R186) -/
  | linkReset (c : Command) (hc : Runs c i) (hop : c.op = .resetLink)
      (e : t = ((s.restartRx.setDataReady false).setTx { s.tx with index := 0#9, expectedLength := 0#9 }).finish
        0x03#8 .ok)
  /-- KF_RESET (R217) -/
  | kfReset (c : Command) (hc : Runs c i) (hop : c.op = .kfReset)
      (e : t = (s.setKf (Kalman.initial s.build)).finish 0x10#8 .ok)
  /-- KF_APPLY with `dt` not positive (R219) -/
  | kfRejected (c : Command) (hc : Runs c i) (hop : c.op = .kfApply) (hdt : s.kop.kdt.toInt ≤ 0)
      (e : t = s.raiseDterr.finish 0x11#8 .reject)
  /-- KF_APPLY (R218) -/
  | kfApplied (c : Command) (hc : Runs c i) (hop : c.op = .kfApply) (hdt : 0 < s.kop.kdt.toInt)
      (e : t = ((s.setKf ((kfCycle s.build s.kf s.kop).words s.kop)).setKstat
        { s.kstat with ovf := s.kstat.ovf || (kfCycle s.build s.kf s.kop).ovf,
                       divz := s.kstat.divz || (kfCycle s.build s.kf s.kop).divz }).finish 0x11#8 .ok)
  /-- an illegal word written to CMD (R187) -/
  | illegal (off : Offset) (v : Word) (r : CommandReject) (hi : i = .busWrite off v) (hr : regAt off = .cmd)
      (hv : decodeCommand v = .error r) (e : t = s.finish (cmdOp v) .illegal)
  /-- a write that does not reach CMD (R181) -/
  | written (off : Offset) (v : Word) (hi : i = .busWrite off v) (hr : regAt off ≠ .cmd)
      (e : t = (writeReg (regAt off) v s).setOut .none)
  /-- a read (R180) -/
  | read (off : Offset) (hi : i = .busRead off) (e : t = s.setOut (.readData (busValue off s)))
  /-- an exchange with the link disabled (R152) -/
  | disabled (b : Byte) (hi : i = .linkByte b) (hen : s.ctrl.linkEn = false) (e : t = s.setOut (.sent s.build.fill))
  /-- an exchange with the link enabled (R151) -/
  | exchanged (b : Byte) (hi : i = .linkByte b) (hen : s.ctrl.linkEn = true)
      (e : t = (s.advanceTx.receive b).setOut (.sent s.txOut))

/-- Two outcomes that go on are equal when their states are. -/
theorem next_inj {s t : State} (h : (.next s : Host.Outcome State Fault Refusal) = .next t) : t = s := by
  cases h
  rfl

/-- Everything a command can do. -/
theorem executed_command {i : Instr} {c : Command} {s t : State} (hc : Runs c i) (h : exec c.toInstr s = .next t) :
    Executed i s t := by
  obtain ⟨op, a, b⟩ := c
  cases op
  case nop => exact .nop _ hc rfl (next_inj h)
  case send =>
    change execSend a b s = _ at h
    unfold execSend at h
    split at h
    · next hp => exact .sendBusy _ hc rfl hp (next_inj h)
    · next hp =>
      split at h
      · next hl => exact .sendRejected _ hc rfl (by simpa using hp) hl (next_inj h)
      · next hl => exact .sendLoaded _ hc rfl (by simpa using hp) (Nat.le_of_not_lt hl) (next_inj h)
  case consume =>
    change execConsume a b s = _ at h
    unfold execConsume at h
    split at h
    · next hd => exact .consumed _ hc rfl hd (next_inj h)
    · next hd => exact .noData _ hc rfl (by simpa using hd) (next_inj h)
  case resetLink => exact .linkReset _ hc rfl (next_inj h)
  case kfReset => exact .kfReset _ hc rfl (next_inj h)
  case kfApply =>
    change execKfApply a b s = _ at h
    unfold execKfApply at h
    split at h
    · next hdt => exact .kfRejected _ hc rfl hdt (next_inj h)
    · next hdt => exact .kfApplied _ hc rfl (lt_of_not_ge hdt) (next_inj h)

/-- Everything an instruction can do. -/
theorem exec_cases {i : Instr} {s t : State} (h : exec i s = .next t) : Executed i s t := by
  cases i
  case busRead off => exact .read off rfl (next_inj h)
  case busWrite off v =>
    change execBusWrite off v s = _ at h
    unfold execBusWrite at h
    split at h
    · next hr =>
      cases hv : decodeCommand v with
      | error r => exact .illegal off v r rfl hr hv (next_inj ((execute_eq_illegal hv s).symm.trans h))
      | ok c => exact executed_command (.inr ⟨off, v, rfl, hr, hv⟩) ((execute_eq_exec hv s).symm.trans h)
    · next hr => exact .written off v rfl hr (next_inj h)
  case linkByte b =>
    change execLinkByte b s = _ at h
    cases hen : s.ctrl.linkEn with
    | false => exact .disabled b rfl hen (next_inj ((execLinkByte_disabled hen b).symm.trans h))
    | true => exact .exchanged b rfl hen (next_inj ((execLinkByte_enabled hen b).symm.trans h))
  case nop a b => exact executed_command (c := ⟨.nop, a, b⟩) (.inl rfl) h
  case send ty len => exact executed_command (c := ⟨.send, ty, len⟩) (.inl rfl) h
  case consume a b => exact executed_command (c := ⟨.consume, a, b⟩) (.inl rfl) h
  case resetLink a b => exact executed_command (c := ⟨.resetLink, a, b⟩) (.inl rfl) h
  case kfReset a b => exact executed_command (c := ⟨.kfReset, a, b⟩) (.inl rfl) h
  case kfApply a b => exact executed_command (c := ⟨.kfApply, a, b⟩) (.inl rfl) h

end Sys2Proof.Machine
end

section
/-!
SUPPORT. The invariant of the block in its parts, each kept by the operations that touch it (10_state.md R24, R25).
-/

namespace Sys2Proof.Machine

/-! ## Byte memories -/

/-- A memory in canonical form that lists only cells of a buffer of `n` bytes. -/
def Memory.Ok (n : Nat) (m : Memory) : Prop := Memory.wf m ∧ Memory.within n m

theorem Memory.Ok.nil (n : Nat) : Memory.Ok n [] := ⟨List.Pairwise.nil, fun _ hc => absurd hc List.not_mem_nil⟩

theorem Memory.Ok.write {n : Nat} {m : Memory} (h : Memory.Ok n m) {i : Nat} (hi : i < n) (v : Byte) :
    Memory.Ok n (Memory.write m i v) :=
  ⟨Memory.write_wf h.1 i v, Memory.write_within h.2 hi v⟩

theorem Memory.Ok.writeBytes {n : Nat} {m : Memory} (h : Memory.Ok n m) {vs : List Byte} (hn : vs.length ≤ n) :
    Memory.Ok n (Memory.writeBytes m 0 vs) :=
  ⟨Memory.writeBytes_wf h.1 0 vs, Memory.writeBytes_within h.2 (by omega)⟩

namespace State

/-! ## The receive side -/

/-- The part of the invariant that speaks of the receive state (R22, R24). -/
structure RxInv (s : State) : Prop where
  cursors : s.RxCursorsOk
  header : s.RxHeaderOk
  dataReady : s.DataReadyOk
  buffer : Memory.Ok s.build.cap s.rx.buffer

/-- The held frame is a matter of the build and the bytes of `rx_buffer`. -/
theorem HoldsValidFrame.congr {s t : State} (h : s.HoldsValidFrame) (hb : t.build = s.build)
    (hx : ∀ j, t.rxByte j = s.rxByte j) : t.HoldsValidFrame := by
  simp only [HoldsValidFrame, heldTotal, rxLength, storedSum, computedSum, rxSlice, hb, hx] at h ⊢
  exact h

/-- The receive part of the invariant reads the build, the reset count and the receive state only. -/
theorem RxInv.congr {s t : State} (h : s.RxInv) (hb : t.build = s.build := by simp)
    (hr : t.resets = s.resets := by simp) (hx : t.rx = s.rx := by simp) : t.RxInv := by
  obtain ⟨⟩ := s
  obtain ⟨⟩ := t
  simp only at hb hr hx
  subst hb hr hx
  exact ⟨h.cursors, h.header, h.dataReady, h.buffer⟩

/-- At rest in AWAIT_MARK1 only the held frame and the buffer matter (R24). -/
theorem RxInv.of_atRest {s : State} (hcap : 6 ≤ s.build.cap) (hi : s.rx.index = 0#9) (he : s.rx.expectedLength = 4#9)
    (hd : s.rx.dataReady = true → s.HoldsValidFrame) (hb : Memory.Ok s.build.cap s.rx.buffer) : s.RxInv where
  cursors := by
    refine ⟨by rw [hi, he]; decide, ?_, fun _ => he⟩
    rw [he]
    exact le_trans (by decide) hcap
  header := by
    unfold RxHeaderOk
    simp [hi]
  dataReady := fun h => ⟨by simp [hi], hd h⟩
  buffer := hb

theorem RxInv.setDataReady_false {s : State} (h : s.RxInv) : (s.setDataReady false).RxInv :=
  ⟨h.cursors, h.header, fun hd => Bool.noConfusion hd, h.buffer⟩

/-- `rx_index` is a cell of the buffer, and counting it on does not wrap (R24). -/
theorem RxInv.index_lt {s : State} (h : s.RxInv) :
    s.rx.index.toNat < s.rx.expectedLength.toNat ∧ s.rx.expectedLength.toNat ≤ s.build.cap ∧
      (s.rx.index + 1#9).toNat = s.rx.index.toNat + 1 := by
  obtain ⟨hlt, hle, -⟩ := h.cursors
  have hlt : s.rx.index.toNat < s.rx.expectedLength.toNat := hlt
  have := s.rx.expectedLength.isLt
  exact ⟨hlt, hle, toNat_succ (by omega)⟩

/-- From READING_TYPE on no frame is held (R24.4). -/
theorem RxInv.not_dataReady {s : State} (h : s.RxInv) (hi : 2 ≤ s.rx.index.toNat) : ¬ s.rx.dataReady = true := by
  intro hd
  obtain ⟨hle, -⟩ := h.dataReady hd
  omega

/-- A mark stored over the first mark of a held frame leaves the frame as it was. -/
theorem HoldsValidFrame.storeRx_mark {s : State} (h : s.HoldsValidFrame) (hi : s.rx.index = 0#9) :
    (s.storeRx s.build.mark).HoldsValidFrame := by
  obtain ⟨-, h0, -⟩ := id h
  refine h.congr rfl fun j => ?_
  rw [rxByte_storeRx, hi]
  split
  · next hj =>
    subst hj
    exact h0.symm
  · rfl

/-- The buffer part alone: the byte is stored inside the buffer. -/
theorem RxInv.storeRx_buffer {s : State} (h : s.RxInv) (b : Byte) :
    Memory.Ok s.build.cap (s.storeRx b).rx.buffer := by
  obtain ⟨hlt, hle, -⟩ := h.index_lt
  exact h.buffer.write (by omega) b

/-- The two marks stay where they are, or are the byte stored now. -/
theorem RxInv.storeRx_marks {s : State} (h : s.RxInv) {b : Byte} (hm : s.rx.index.toNat ≤ 1 → b = s.build.mark) :
    (s.storeRx b).rxByte 0 = s.build.mark ∧ (1 ≤ s.rx.index.toNat → (s.storeRx b).rxByte 1 = s.build.mark) := by
  obtain ⟨h0, h1, -⟩ := h.header
  rw [rxByte_storeRx, rxByte_storeRx]
  refine ⟨?_, fun hi => ?_⟩
  · split
    · exact hm (by omega)
    · exact h0 (by omega)
  · split
    · exact hm (by omega)
    · exact h1 (by omega)

/-- In READING_PAYLOAD the expected total comes from the LENGTH, which a stored byte does not touch (R22). -/
theorem RxInv.storeRx_heldTotal {s : State} (h : s.RxInv) (b : Byte) (hi : 4 ≤ s.rx.index.toNat) :
    s.rx.expectedLength.toNat = (s.storeRx b).heldTotal := by
  obtain ⟨-, -, h4⟩ := h.header
  rw [h4 hi, heldTotal, heldTotal, rxLength, rxLength, rxByte_storeRx, if_neg (by omega)]

/-- A byte stored before the last one expected: a mark in the two first places (R154, R155), any other after them (R157,
R158). -/
theorem RxInv.storeRx {s : State} (h : s.RxInv) {b : Byte} (hm : s.rx.index.toNat ≤ 1 → b = s.build.mark)
    (hn : s.rx.index.toNat + 1 ≠ s.rx.expectedLength.toNat) (hd : s.rx.dataReady = true → s.rx.index = 0#9) :
    (s.storeRx b).RxInv := by
  obtain ⟨hlt, hle, hsucc⟩ := h.index_lt
  obtain ⟨-, -, hexp⟩ := h.cursors
  obtain ⟨hm0, hm1⟩ := h.storeRx_marks hm
  have h4 : s.rx.index.toNat ≤ 3 → s.rx.expectedLength.toNat = 4 := fun hi => by rw [hexp hi]; rfl
  refine ⟨⟨?_, hle, fun hi => hexp ?_⟩, ⟨fun _ => hm0, fun hi => hm1 ?_, fun hi => ?_⟩, fun hr => ?_, h.storeRx_buffer b⟩
  · change (s.rx.index + 1#9).toNat < s.rx.expectedLength.toNat
    omega
  · change (s.rx.index + 1#9).toNat ≤ 3 at hi
    omega
  · change 2 ≤ (s.rx.index + 1#9).toNat at hi
    omega
  · change 4 ≤ (s.rx.index + 1#9).toNat at hi
    exact h.storeRx_heldTotal b (by omega)
  · obtain ⟨-, hheld⟩ := h.dataReady hr
    have hi : s.rx.index = 0#9 := hd hr
    refine ⟨?_, ?_⟩
    · change (s.rx.index + 1#9).toNat ≤ 1
      rw [hi]
      decide
    · rw [hm (by rw [hi]; decide)]
      exact hheld.storeRx_mark hi

/-- A LENGTH that fits takes the receiver to READING_PAYLOAD (R156). -/
theorem RxInv.storeLength {s : State} (h : s.RxInv) (hi : s.rx.index = 3#9) {b : Byte} (hl : 6 + b.toNat ≤ s.build.cap) :
    ((s.storeRx b).setRx { s.rx.store b with expectedLength := BitVec.ofNat 9 (6 + b.toNat) }).RxInv := by
  have hidx : s.rx.index.toNat = 3 := by rw [hi]; rfl
  obtain ⟨hm0, hm1⟩ := h.storeRx_marks (b := b) (by omega)
  have hexp : (BitVec.ofNat 9 (6 + b.toNat)).toNat = 6 + b.toNat := by
    have := b.isLt
    rw [BitVec.toNat_ofNat]
    omega
  have hsucc : (s.rx.index + 1#9).toNat = 4 := by rw [hi]; rfl
  have hlen : (s.storeRx b).rxByte 3 = b := by rw [rxByte_storeRx, if_pos hidx]
  refine ⟨⟨?_, ?_, fun h3 => ?_⟩, ⟨fun _ => hm0, fun _ => hm1 (by omega), fun _ => ?_⟩, fun hr => ?_, h.storeRx_buffer b⟩
  · change (s.rx.index + 1#9).toNat < (BitVec.ofNat 9 (6 + b.toNat)).toNat
    omega
  · exact hexp.trans_le hl
  · change (s.rx.index + 1#9).toNat ≤ 3 at h3
    omega
  · exact hexp.trans (congrArg (fun x : Byte => 6 + x.toNat) hlen.symm)
  · exact absurd hr (h.not_dataReady (by omega))

/-- The byte that completes a frame whose checksum matches leaves a valid frame in the buffer (R159, R164). -/
theorem RxInv.holdsValidFrame_storeRx {s : State} (h : s.RxInv) {b : Byte} (hi : 4 ≤ s.rx.index.toNat)
    (hv : (s.storeRx b).storedSum = (s.storeRx b).computedSum) : (s.storeRx b).HoldsValidFrame := by
  obtain ⟨-, hle, -⟩ := h.index_lt
  obtain ⟨hm0, hm1⟩ := h.storeRx_marks (b := b) (by omega)
  exact ⟨h.storeRx_heldTotal b hi ▸ hle, hm0, hm1 (by omega), hv⟩

/-- Each case of the receive side keeps the receive part of the invariant (R154 to R160). -/
theorem Received.rxInv {s t : State} {b : Byte} (hr : Received s b t) (hcap : 6 ≤ s.build.cap) (h : s.RxInv) :
    t.RxInv := by
  obtain ⟨-, -, hexp⟩ := h.cursors
  have before {k : Cursor} (hi : s.rx.index = k) (hk : k.toNat ≤ 2) :
      s.rx.index.toNat + 1 ≠ s.rx.expectedLength.toNat := by
    rw [hexp (by rw [hi]; omega), hi, show (4#9).toNat = 4 from rfl]
    omega
  cases hr
  case ignored _ _ e => exact e ▸ h
  case mark1 hi hb e => exact e ▸ h.storeRx (fun _ => hb) (before hi (by decide)) fun _ => hi
  case mark2 hi hb hd e =>
    exact e ▸ h.storeRx (fun _ => hb) (before hi (by decide)) fun hr => absurd hr (by simp [hd])
  case overrun hi hb hd e =>
    have hq : ((s.setDataReady false).storeRx b).RxInv :=
      h.setDataReady_false.storeRx (fun _ => hb) (before hi (by decide)) fun hr => Bool.noConfusion hr
    exact e ▸ hq.congr rfl rfl rfl
  case badMark hi _ e =>
    subst e
    exact .of_atRest hcap rfl (hexp (by rw [hi]; decide)) (fun hr => (h.dataReady hr).2) h.buffer
  case typeByte hi e =>
    have h2 : s.rx.index.toNat = 2 := by rw [hi]; rfl
    exact e ▸ h.storeRx (by omega) (before hi (by decide)) fun hr => absurd hr (h.not_dataReady h2.ge)
  case tooLong hi _ e =>
    subst e
    exact .of_atRest hcap rfl rfl (fun hr => absurd hr (h.not_dataReady (by rw [hi]; decide))) h.buffer
  case lengthByte hi hl e => exact e ▸ h.storeLength hi hl
  case payloadByte hi hn e =>
    obtain ⟨-, -, hsucc⟩ := h.index_lt
    refine e ▸ h.storeRx (by omega) ?_ fun hr => absurd hr (h.not_dataReady (by omega))
    exact hsucc ▸ mt BitVec.eq_of_toNat_eq hn
  case valid hi _ hv e =>
    subst e
    exact .of_atRest hcap rfl rfl (fun _ => h.holdsValidFrame_storeRx hi hv) (h.storeRx_buffer b)
  case invalid hi _ _ e =>
    subst e
    exact .of_atRest hcap rfl rfl (fun hr => absurd hr (h.not_dataReady (by omega))) (h.storeRx_buffer b)

/-! ## The transmit side -/

/-- The part of the invariant that speaks of the transmit state (R25). -/
structure TxInv (s : State) : Prop where
  cursors : s.TxCursorsOk
  buffer : Memory.Ok s.build.cap s.tx.buffer

/-- The transmit part of the invariant reads the build and the transmit state only. -/
theorem TxInv.congr {s t : State} (h : s.TxInv) (hb : t.build = s.build := by simp) (hx : t.tx = s.tx := by simp) :
    t.TxInv := by
  obtain ⟨⟩ := s
  obtain ⟨⟩ := t
  simp only at hb hx
  subst hb hx
  exact ⟨h.cursors, h.buffer⟩

/-- The transmit cursor counts on to the end of the frame and no further (R153). -/
theorem TxInv.advanceTx {s : State} (h : s.TxInv) : s.advanceTx.TxInv := by
  obtain ⟨hle, hcap⟩ := h.cursors
  unfold State.advanceTx
  split
  · next hp =>
    have hlt : s.tx.index.toNat < s.tx.expectedLength.toNat := of_decide_eq_true hp
    have hsucc := toNat_succ (c := s.tx.index) (by omega)
    refine ⟨⟨?_, hcap⟩, h.buffer⟩
    change (s.tx.index + 1#9).toNat ≤ s.tx.expectedLength.toNat
    omega
  · exact h

/-- A frame of at most CAP bytes is loaded with its cursors at its ends (R184). -/
theorem TxInv.loadTx {s : State} (h : s.TxInv) {frame : List Byte} (hl : frame.length ≤ s.build.cap) :
    (s.loadTx frame).TxInv := by
  refine ⟨⟨BitVec.le_def.mpr (Nat.zero_le _), le_trans ?_ hl⟩, h.buffer.writeBytes hl⟩
  exact (BitVec.toNat_ofNat _ _).trans_le (Nat.mod_le _ _)

/-! ## The whole invariant -/

/-- A legal build has room for an empty frame (R5). -/
theorem cap_ge_of_legal {bd : Build} (h : bd.legal = true) : 6 ≤ bd.cap := by
  simp only [Build.legal, Bool.and_eq_true, decide_eq_true_eq] at h
  omega

/-- The invariant is a legal build and one part for each of the receive state, the transmit state, `stage` and `snap`. -/
theorem inv_iff (s : State) :
    s.Inv ↔ s.build.legal = true ∧ s.RxInv ∧ s.TxInv ∧ Memory.Ok s.build.pmax s.stage ∧ Memory.Ok s.build.cap s.snap := by
  constructor
  · rintro ⟨hb, hrc, hrh, hd, htc, hrx, htx, hst, hsn⟩
    exact ⟨hb, ⟨hrc, hrh, hd, hrx⟩, ⟨htc, htx⟩, hst, hsn⟩
  · rintro ⟨hb, ⟨hrc, hrh, hd, hrx⟩, ⟨htc, htx⟩, hst, hsn⟩
    exact ⟨hb, hrc, hrh, hd, htc, hrx, htx, hst, hsn⟩

theorem Inv.rxInv {s : State} (h : s.Inv) : s.RxInv := by
  obtain ⟨-, hrx, -⟩ := (inv_iff s).mp h
  exact hrx

theorem Inv.txInv {s : State} (h : s.Inv) : s.TxInv := by
  obtain ⟨-, -, htx, -⟩ := (inv_iff s).mp h
  exact htx

/-- Of the build, `stage` and `snap` the invariant keeps what it has when they are as before. -/
theorem Inv.of_parts {s t : State} (h : s.Inv) (hrx : t.RxInv) (htx : t.TxInv)
    (hb : t.build = s.build := by simp) (hst : t.stage = s.stage := by simp) (hsn : t.snap = s.snap := by simp) :
    t.Inv := by
  obtain ⟨hbl, -, -, hst', hsn'⟩ := (inv_iff s).mp h
  exact (inv_iff t).mpr ⟨hb ▸ hbl, hrx, htx, by rwa [hb, hst], by rwa [hb, hsn]⟩

/-- The state after power-on reset of a legal build has the invariant (R47). -/
theorem inv_afterPowerOn {bd : Build} (h : bd.legal = true) (n : Nat) (is : List Input) :
    (afterPowerOn bd n is).Inv := by
  have hcap : 6 ≤ (afterPowerOn bd n is).build.cap := cap_ge_of_legal h
  refine (inv_iff _).mpr ⟨h, ?_, ⟨⟨BitVec.le_def.mpr (Nat.zero_le _), ?_⟩, .nil _⟩, .nil _, .nil _⟩
  · exact .of_atRest hcap rfl rfl (fun hr => Bool.noConfusion hr) (.nil _)
  · exact Nat.zero_le _

end State

/-! ## Instructions and steps -/

open State in
/-- Every instruction keeps the invariant. -/
theorem Executed.inv {i : Instr} {s t : State} (he : Executed i s t) (h : s.Inv) : t.Inv := by
  obtain ⟨hb, hrx, htx, hst, hsn⟩ := (inv_iff s).mp h
  cases he
  case sendLoaded c _ _ _ hl e =>
    subst e
    have hload : (s.loadTx (encodeFrame s.build.mark c.a (s.stageSlice c.b.toNat))).TxInv :=
      htx.loadTx (by rwa [length_encodeFrame, length_stageSlice])
    exact h.of_parts hrx.congr hload.congr
  case consumed c _ _ _ e =>
    subst e
    exact (inv_iff _).mpr ⟨hb, hrx.setDataReady_false.congr, htx.congr, hst,
      hsn.writeBytes (length_rxSlice s 0 s.build.cap).le⟩
  case linkReset c _ _ e =>
    subst e
    exact h.of_parts (.of_atRest (cap_ge_of_legal hb) rfl rfl (fun hr => Bool.noConfusion hr) hrx.buffer)
      ⟨⟨BitVec.le_def.mpr (Nat.zero_le _), Nat.zero_le _⟩, htx.buffer⟩
  case written off v _ _ e =>
    have hstage : Memory.Ok s.build.pmax (writeReg (regAt off) v s).stage := by
      rcases writeReg_stage_cases (regAt off) v s with hs | ⟨k, -, hk, hs⟩
      · exact hs ▸ hst
      · exact hs ▸ hst.write hk _
    subst e
    refine (inv_iff _).mpr ⟨?_, hrx.congr, htx.congr, ?_, ?_⟩ <;> simpa
  case exchanged b _ _ e =>
    have hr : (s.advanceTx.receive b).RxInv := (receive_cases _ b).rxInv (by simpa using cap_ge_of_legal hb) hrx.congr
    have ht : (s.advanceTx.receive b).TxInv := htx.advanceTx.congr (receive_build _ _) (receive_tx _ _)
    subst e
    exact h.of_parts hr.congr ht.congr (by simp [receive_build])
  all_goals
    next e =>
    subst e
    exact h.of_parts hrx.congr htx.congr

/-- Everything a step can do, in a block with a legal build (R79, R280, R9). -/
theorem step_cases {s t : State} (h : step s = .next t) :
    t = s ∨ (∃ rest, t = (s.setPending rest).powerOnReset) ∨
      ∃ a rest, exec (decode a) (s.setPending rest) = .next t := by
  unfold step at h
  split at h
  · split at h
    · exact .inl (next_inj h)
    · next rest _ => exact .inr (.inl ⟨rest, next_inj h⟩)
    · next a rest _ => exact .inr (.inr ⟨a, rest, h⟩)
  · cases h

open State in
/-- Every step keeps the invariant. -/
theorem step_inv {s t : State} (hs : s.Inv) (h : step s = .next t) : t.Inv := by
  rcases step_cases h with rfl | ⟨rest, rfl⟩ | ⟨a, rest, he⟩
  · exact hs
  · exact inv_afterPowerOn hs.build _ rest
  · exact (exec_cases he).inv (hs.of_parts hs.rxInv.congr hs.txInv.congr)

/-- Settles O31: every instruction, a power-on reset and the idle step each keep the four parts of the invariant. -/
theorem everyStepKeepsInvariant : Obligations.EveryStepKeepsInvariant :=
  fun _ _ hs h => step_inv hs h

/-- Settles O32: at reset the receiver is at rest with no frame held, and nothing is listed in the buffers. -/
theorem resetHasInvariant : Obligations.ResetHasInvariant :=
  ⟨State.inv_afterPowerOn (by decide) 0 [], fun _ n is h => State.inv_afterPowerOn h n is⟩

end Sys2Proof.Machine
end

section
/-!
SUPPORT. What each operation may change of the Kalman words, `snap` and `stage` (10_state.md R26, R27, R44).
-/

namespace Sys2Proof.Machine

open State

/-- A changed Kalman word means KF_RESET or KF_APPLY ran (R44). -/
theorem Executed.runs_of_kf_ne {i : Instr} {s t : State} (he : Executed i s t) (hk : t.kf ≠ s.kf) :
    (∃ c : Command, c.op = .kfReset ∧ Runs c i) ∨ ∃ c : Command, c.op = .kfApply ∧ Runs c i := by
  cases he
  case kfReset c hc hop _ => exact .inl ⟨c, hop, hc⟩
  case kfApplied c hc hop _ _ => exact .inr ⟨c, hop, hc⟩
  all_goals
    next e =>
    exact absurd (by simp [e]) hk

/-- A changed `snap` means CONSUME took a held frame (R27). -/
theorem Executed.consumed_of_snap_ne {i : Instr} {s t : State} (he : Executed i s t) (hs : t.snap ≠ s.snap) :
    (∃ c : Command, c.op = .consume ∧ Runs c i) ∧ s.rx.dataReady = true ∧ t.rx.dataReady = false := by
  cases he
  case consumed c hc hop hd e => exact ⟨⟨c, hop, hc⟩, hd, by simp [e]⟩
  all_goals
    next e =>
    exact absurd (by simp [e]) hs

/-- A changed `stage` means a write to a TXSTAGE word below PMAX (R26, R45). -/
theorem Executed.written_of_stage_ne {i : Instr} {s t : State} (he : Executed i s t) (hs : t.stage ≠ s.stage) :
    ∃ off v k, i = .busWrite off v ∧ regAt off = .txstage k ∧ k < s.build.pmax := by
  cases he
  case written off v hi _ e =>
    rcases writeReg_stage_cases (regAt off) v s with hk | ⟨k, hr, hk, -⟩
    · exact absurd (by simp [e, hk]) hs
    · exact ⟨off, v, k, hi, hr, hk⟩
  all_goals
    next e =>
    exact absurd (by simp [e]) hs

/-- Settles O35: one claim for each of the three parts, over the outcomes of an instruction. -/
theorem onlyTheirOwnOperationsChangeKalmanSnapAndStage :
    Obligations.OnlyTheirOwnOperationsChangeKalmanSnapAndStage :=
  fun _ _ _ h => ⟨(exec_cases h).runs_of_kf_ne, (exec_cases h).consumed_of_snap_ne, (exec_cases h).written_of_stage_ne⟩

end Sys2Proof.Machine
end

section
/-!
SUPPORT. The value of each register, as a number, from the fields it is put together from (10_state.md R36 to R46).
-/

namespace Sys2Proof.Machine

open State

/-! ## Fields as numbers -/

/-- Two fields side by side, as a number. -/
theorem toNat_append_eq_add {m n : Nat} (x : BitVec m) (y : BitVec n) :
    (x ++ y).toNat = x.toNat * 2 ^ n + y.toNat := by
  rw [BitVec.toNat_append, ← Nat.shiftLeft_add_eq_or_of_lt y.isLt, Nat.shiftLeft_eq]

@[simp] theorem toNat_bit (b : Bool) : (bit b).toNat = b.toNat := BitVec.toNat_ofBool b

/-- RX_STATE counts the header positions and stays at 4 (R23). -/
theorem toNat_rxStateCode (c : Cursor) : (rxStateCode c).toNat = min c.toNat 4 := by
  rcases index_cases c with rfl | rfl | rfl | rfl | h
  · rfl
  · rfl
  · rfl
  · rfl
  · have ne : ∀ k : Cursor, k.toNat < 4 → c ≠ k := fun k hk e => by rw [e] at h; omega
    simp [rxStateCode, ne 0#9 (by decide), ne 1#9 (by decide), ne 2#9 (by decide), ne 3#9 (by decide), h]

theorem toNat_cfgValue (bd : Build) :
    (cfgValue bd).toNat = bd.mark.toNat + 2 ^ 8 * bd.fill.toNat + 2 ^ 16 * (bd.cap % 512) + 2 ^ 25 * (bd.fracBits % 32) := by
  unfold cfgValue
  change BitVec.toNat (w := 2 + 5 + 9 + 8 + 8) _ = _
  simp only [toNat_append_eq_add, BitVec.toNat_ofNat]
  omega

theorem toNat_ctrlValue (c : Control) :
    (ctrlValue c).toNat = c.linkEn.toNat + 2 * c.rxie.toNat + 4 * c.txie.toNat := by
  unfold ctrlValue
  change BitVec.toNat (w := 29 + 1 + 1 + 1) _ = _
  simp only [toNat_append_eq_add, toNat_bit, BitVec.toNat_ofNat]
  omega

theorem toNat_fstatValue (s : State) :
    (fstatValue s).toNat = s.rx.dataReady.toNat + 2 * s.txPending.toNat + 4 * min s.rx.index.toNat 4 +
      2 ^ 8 * s.fstat.ferr.toNat + 2 ^ 9 * s.fstat.cerr.toNat + 2 ^ 10 * s.fstat.ovr.toNat +
      2 ^ 11 * s.fstat.busy.toNat + 2 ^ 12 * s.irq.toNat := by
  unfold fstatValue
  change BitVec.toNat (w := 19 + 1 + 1 + 1 + 1 + 1 + 3 + 3 + 1 + 1) _ = _
  simp only [toNat_append_eq_add, toNat_bit, toNat_rxStateCode, BitVec.toNat_ofNat]
  omega

theorem toNat_cmdValue (r : CmdResult) : (cmdValue r).toNat = r.op.toNat + 2 ^ 8 * r.code.code.toNat := by
  unfold cmdValue
  change BitVec.toNat (w := 21 + 3 + 8) _ = _
  simp only [toNat_append_eq_add, BitVec.toNat_ofNat]
  omega

theorem toNat_cursorValue (index expectedLength : Cursor) :
    (cursorValue index expectedLength).toNat = index.toNat + 2 ^ 16 * expectedLength.toNat := by
  unfold cursorValue
  change BitVec.toNat (w := 7 + 9 + 7 + 9) _ = _
  simp only [toNat_append_eq_add, BitVec.toNat_ofNat]
  omega

theorem toNat_kstatValue (k : KalmanStatus) :
    (kstatValue k).toNat = k.ovf.toNat + 2 * k.divz.toNat + 4 * k.dterr.toNat := by
  unfold kstatValue
  change BitVec.toNat (w := 29 + 1 + 1 + 1) _ = _
  simp only [toNat_append_eq_add, toNat_bit, BitVec.toNat_ofNat]
  omega

/-- Bit 12 of FSTAT is IRQ (R38). -/
theorem getLsbD_fstatValue_irq (s : State) : (fstatValue s).getLsbD 12 = s.irq := by
  unfold fstatValue
  change BitVec.getLsbD (w := 19 + 1 + 1 + 1 + 1 + 1 + 3 + 3 + 1 + 1) _ 12 = _
  simp only [BitVec.getLsbD_append]
  simp [bit]

/-! ## Reads -/

theorem busValue_cfg (s : State) : busValue 0x000#12 s = cfgValue s.build := rfl
theorem busValue_ctrl (s : State) : busValue 0x004#12 s = ctrlValue s.ctrl := rfl
theorem busValue_fstat (s : State) : busValue 0x008#12 s = fstatValue s := rfl
theorem busValue_cmd (s : State) : busValue 0x00C#12 s = cmdValue s.result := rfl
theorem busValue_rxcur (s : State) : busValue 0x010#12 s = cursorValue s.rx.index s.rx.expectedLength := rfl
theorem busValue_txcur (s : State) : busValue 0x014#12 s = cursorValue s.tx.index s.tx.expectedLength := rfl
theorem busValue_kstat (s : State) : busValue 0x04C#12 s = kstatValue s.kstat := rfl

/-- A word of a byte window is the byte, with 0 in its other bits, or 0 past the end (R45, R46). -/
theorem toNat_window (p : Prop) [Decidable p] (b : Byte) :
    (if p then b.setWidth 32 else 0#32).toNat = if p then b.toNat else 0 := by
  split
  · exact BitVec.toNat_setWidth_of_le (by decide)
  · rfl

theorem regAt_eq_txstage {off : Offset} {i : Nat} (hi : i ≤ 254) (h : off.toNat = 0x400 + 4 * i) :
    regAt off = .txstage i := by
  rw [regAt_txstage (by omega) (by omega), show (off.toNat - 0x400) / 4 = i by omega]

theorem regAt_eq_snap {off : Offset} {i : Nat} (hi : i ≤ 260) (h : off.toNat = 0x800 + 4 * i) :
    regAt off = .snap i := by
  rw [regAt_snap (by omega) (by omega), show (off.toNat - 0x800) / 4 = i by omega]

/-- TXSTAGE reads one byte of `stage` a word, and 0 past PMAX (R45, R72). -/
theorem busValue_txstage {off : Offset} {i : Nat} (hi : i ≤ 254) (h : off.toNat = 0x400 + 4 * i) (s : State) :
    (busValue off s).toNat = if i < s.build.pmax then (s.stageByte i).toNat else 0 := by
  rw [busValue, regAt_eq_txstage hi h]
  exact toNat_window _ _

/-- SNAP reads one byte of `snap` a word, and 0 past CAP (R46, R72). -/
theorem busValue_snap {off : Offset} {i : Nat} (hi : i ≤ 260) (h : off.toNat = 0x800 + 4 * i) (s : State) :
    (busValue off s).toNat = if i < s.build.cap then (s.snapByte i).toNat else 0 := by
  rw [busValue, regAt_eq_snap hi h]
  exact toNat_window _ _

/-- Settles O41: the two byte windows. -/
theorem byteWindowsReadTheirBytes : Obligations.ByteWindowsReadTheirBytes :=
  fun s _ _ => ⟨fun hi h => busValue_txstage hi h s, fun hi h => busValue_snap hi h s⟩

/-- Settles O40: KSTAT is put together from its bits, every other Kalman register is a word of the state. -/
theorem kalmanRegistersReadTheirWords : Obligations.KalmanRegistersReadTheirWords :=
  fun s => ⟨rfl, by rw [busValue_kstat, toNat_kstatValue], rfl⟩

/-- Settles O39: each register is its fields; a legal build's CAP and F fit the fields of CFG. -/
theorem framerRegistersReadTheirFields : Obligations.FramerRegistersReadTheirFields := by
  intro s hb
  refine ⟨?_, toNat_ctrlValue _, toNat_fstatValue s, ?_, toNat_cursorValue _ _, toNat_cursorValue _ _⟩
  · simp only [Build.legal, Bool.and_eq_true, decide_eq_true_eq] at hb
    have := s.build.mark.isLt
    have := s.build.fill.isLt
    dsimp only
    rw [busValue_cfg, toNat_cfgValue]
    omega
  · rw [busValue_cmd, toNat_cmdValue]
    cases s.result.code <;> rfl

/-- Settles O36: the level's formula over the control bits and the cursors, and its bit in FSTAT. -/
theorem interruptIsALevelOfState : Obligations.InterruptIsALevelOfState := by
  intro s
  refine ⟨?_, getLsbD_fstatValue_irq s, fun _ _ => rfl⟩
  simp [irq, txPending, BitVec.lt_def]

/-! ## Plain writes -/

/-- Settles O44: a status register stores its bits with those written as 1 cleared. -/
theorem statusWriteClearsTheBitsWrittenAsOne : Obligations.StatusWriteClearsTheBitsWrittenAsOne :=
  fun s v => ⟨execBusWrite_plain (by decide) v s, execBusWrite_plain (by decide) v s⟩

/-- Settles O45: CTRL stores its three bits, an operand register the whole word. -/
theorem controlAndOperandWritesStore : Obligations.ControlAndOperandWritesStore :=
  fun s v => ⟨execBusWrite_plain (by decide) v s, ⟨_, execBusWrite_plain (by decide) v s, rfl, rfl⟩,
    ⟨_, execBusWrite_plain (by decide) v s, rfl, rfl⟩, ⟨_, execBusWrite_plain (by decide) v s, rfl, rfl⟩⟩

@[simp] theorem stageByte_setOut (s : State) (o : StepOutput) (j : Nat) : (s.setOut o).stageByte j = s.stageByte j := rfl

/-- Every byte of `stage` has a word in the TXSTAGE window (R5, R45). -/
theorem le_of_lt_pmax {bd : Build} (hb : bd.legal = true) {i : Nat} (hi : i < bd.pmax) : i ≤ 254 := by
  simp only [Build.legal, Bool.and_eq_true, decide_eq_true_eq] at hb
  unfold Build.pmax at hi
  omega

/-- A write to TXSTAGE below PMAX stores the word's low byte in `stage` (R45, R181). -/
theorem execBusWrite_txstage {off : Offset} {s : State} {i : Nat} (hi : i < s.build.pmax) (hle : i ≤ 254)
    (h : off.toNat = 0x400 + 4 * i) (v : Word) :
    execBusWrite off v s = .next ((s.setStage (Memory.write s.stage i (v.setWidth 8))).setOut .none) := by
  rw [execBusWrite_plain (by omega), regAt_eq_txstage hle h, writeReg_txstage hi]

/-- Settles O46: one byte of `stage` is written, and its window reads it back. -/
theorem stageWriteStoresOneByte : Obligations.StageWriteStoresOneByte := by
  intro s off v i hb hi h
  have hle := le_of_lt_pmax hb hi
  have hlow : (v.setWidth 8).toNat = v.toNat % 256 := BitVec.toNat_setWidth 8 v
  refine ⟨_, execBusWrite_txstage hi hle h v, ?_, ?_, fun j hj => ?_, rfl⟩
  · rw [stageByte_setOut, stageByte_write, if_pos rfl, hlow]
  · rw [busValue_txstage hle h, if_pos (by exact hi), stageByte_setOut, stageByte_write, if_pos rfl, hlow]
  · rw [stageByte_setOut, stageByte_write, if_neg (Ne.symm hj)]

end Sys2Proof.Machine
end

section
/-!
SUPPORT. Accesses that find nothing to read or to store, and the low bits of an offset (20_memory.md R72, R73, R75).
-/

namespace Sys2Proof.Machine

/-- TXSTAGE past PMAX reads 0 (R45, R72). -/
theorem regValue_txstage_of_ge {s : State} {i : Nat} (h : s.build.pmax ≤ i) : regValue s (.txstage i) = 0#32 :=
  if_neg (Nat.not_lt.mpr h)

/-- SNAP past CAP reads 0 (R46, R72). -/
theorem regValue_snap_of_ge {s : State} {i : Nat} (h : s.build.cap ≤ i) : regValue s (.snap i) = 0#32 :=
  if_neg (Nat.not_lt.mpr h)

/-- A write that does not reach CMD, of a register that stores nothing, changes nothing (R75, R181). -/
theorem exec_busWrite_ignored {off : Offset} {v : Word} {s : State} (hcmd : off.toNat / 4 ≠ 3)
    (hw : writeReg (regAt off) v s = s) : exec (.busWrite off v) s = .next { s with out := .none } := by
  change execBusWrite off v s = .next (s.setOut .none)
  rw [execBusWrite_plain hcmd, hw]

/-- Settles O42: such an offset reaches no register, a TXSTAGE word past PMAX or a SNAP word past CAP, each of which reads
0 and stores nothing; the read-only registers and the SNAP window store nothing either. -/
theorem unmappedAndReadOnlyOffsetsIgnoreWrites : Obligations.UnmappedAndReadOnlyOffsetsIgnoreWrites := by
  intro s off v
  refine ⟨fun h => ?_, fun h => exec_busWrite_ignored (by omega) ?_⟩
  · suffices hr : regValue s (regAt off) = 0#32 ∧ writeReg (regAt off) v s = s from
      ⟨hr.1, exec_busWrite_ignored (by omega) hr.2⟩
    simp only [← or_assoc] at h
    obtain (hunmapped | ⟨hpast, hend⟩) | ⟨hpast, hend⟩ := h
    · rw [regAt_unmapped (by omega)]
      exact ⟨rfl, rfl⟩
    · have hi : s.build.pmax ≤ (off.toNat - 0x400) / 4 := by omega
      rw [regAt_txstage (by omega) hend]
      exact ⟨regValue_txstage_of_ge hi, writeReg_txstage_of_ge hi v⟩
    · have hi : s.build.cap ≤ (off.toNat - 0x800) / 4 := by omega
      rw [regAt_snap (by omega) hend]
      exact ⟨regValue_snap_of_ge hi, rfl⟩
  · rcases Nat.lt_or_ge off.toNat 0x800 with hlt | hge
    · exact writeReg_readOnly (by omega) v s
    · rw [regAt_snap hge (by omega)]
      rfl

/-- Settles O43: a bus access goes by the register its offset reaches, which is the same within a word. -/
theorem offsetLowBitsAreIgnored : Obligations.OffsetLowBitsAreIgnored := by
  intro s off off' v h
  change execBusRead off s = execBusRead off' s ∧ execBusWrite off v s = execBusWrite off' v s
  unfold execBusRead execBusWrite
  rw [regAt_congr h]
  exact ⟨rfl, rfl⟩

end Sys2Proof.Machine
end

section
/-!
SUPPORT. The fields of a command word as numbers, the answers of its decoder, and the instruction a bus write is
(30_encoding.md R104 to R108).
-/

namespace Sys2Proof

/-! ## The fields of a command word as numbers (R104) -/

theorem toNat_cmdOp (v : Word) : (cmdOp v).toNat = v.toNat % 0x100 := by
  simp [cmdOp, BitVec.extractLsb'_toNat]

theorem cmdA_eq_ofNat (v : Word) : cmdA v = BitVec.ofNat 8 (v.toNat / 0x100) := by
  simp [cmdA, BitVec.extractLsb', Nat.shiftRight_eq_div_pow]

theorem cmdB_eq_ofNat (v : Word) : cmdB v = BitVec.ofNat 8 (v.toNat / 0x10000) := by
  simp [cmdB, BitVec.extractLsb', Nat.shiftRight_eq_div_pow]

/-- RSV is the top byte: nothing stands above it. -/
theorem toNat_cmdRsv (v : Word) : (cmdRsv v).toNat = v.toNat / 0x1000000 := by
  have := v.isLt
  simp only [cmdRsv, BitVec.extractLsb'_toNat, Nat.shiftRight_eq_div_pow]
  omega

theorem cmdRsv_eq_zero_iff (v : Word) : cmdRsv v = 0x00#8 ↔ v.toNat / 0x1000000 = 0 := by
  rw [← BitVec.toNat_inj, toNat_cmdRsv]
  rfl

theorem cmdOp_eq_code_iff (v : Word) (op : Opcode) : cmdOp v = op.code ↔ v.toNat % 0x100 = op.code.toNat := by
  rw [← BitVec.toNat_inj, toNat_cmdOp]

/-! ## The three answers of the command decoder -/

/-- A byte that is no command's code is unassigned (R107). -/
theorem opcodeOf_eq_none {b : Byte} (h : ∀ op : Opcode, b ≠ op.code) : opcodeOf b = none := by
  cases ho : opcodeOf b with
  | none => rfl
  | some op => exact absurd (code_of_opcodeOf ho).symm (h op)

theorem decodeCommand_reservedBits {v : Word} (h : cmdRsv v ≠ 0x00#8) : decodeCommand v = .error .reservedBits :=
  if_neg h

theorem decodeCommand_unassignedOpcode {v : Word} (hr : cmdRsv v = 0x00#8) (ho : ∀ op : Opcode, cmdOp v ≠ op.code) :
    decodeCommand v = .error .unassignedOpcode := by
  rw [decodeCommand, if_pos hr, opcodeOf_eq_none ho]

theorem decodeCommand_assigned {v : Word} {op : Opcode} (hr : cmdRsv v = 0x00#8) (ho : cmdOp v = op.code) :
    decodeCommand v = .ok { op := op, a := cmdA v, b := cmdB v } := by
  rw [decodeCommand, if_pos hr, ho, opcodeOf_code]

/-- Settles O3: the fields taken by division are the decoder's, and each of its three answers has its own lemma. -/
theorem commandWordIsDecodedByItsFields : Obligations.CommandWordIsDecodedByItsFields := by
  refine ⟨⟨rfl, rfl, rfl, rfl, rfl, rfl⟩, fun v => ?_⟩
  simp only [← cmdA_eq_ofNat, ← cmdB_eq_ofNat, ne_eq, ← cmdRsv_eq_zero_iff, ← cmdOp_eq_code_iff]
  exact ⟨decodeCommand_reservedBits, decodeCommand_unassignedOpcode, fun _ => decodeCommand_assigned⟩

/-! ## Agent steps that write (R181, R182) -/

/-- A command word written to CMD is its command. -/
theorem decode_commandWord (op : Opcode) (a b : Byte) :
    decode (.hostWrite cmdOffset (commandWord op.code a b)) = Command.toInstr ⟨op, a, b⟩ := by
  rw [decode, if_pos rfl, decodeCommand_commandWord]

/-- A write of an illegal command word stays a BUS_WRITE (R187). -/
theorem decode_illegalWord {v : Word} {e : CommandReject} (h : decodeCommand v = .error e) :
    decode (.hostWrite cmdOffset v) = .busWrite cmdOffset v := by
  rw [decode, if_pos rfl, h]

/-- A write elsewhere is a BUS_WRITE. -/
theorem decode_plainWrite {off : Offset} (h : off ≠ cmdOffset) (v : Word) :
    decode (.hostWrite off v) = .busWrite off v :=
  if_neg h

/-- Settles O4: the words are the command words of their fields; the illegal one has RSV = 0x01. -/
theorem writtenOutWordsDecode : Obligations.WrittenOutWordsDecode :=
  ⟨decode_commandWord .nop 0x00#8 0x00#8, decode_commandWord .send 0x05#8 0x02#8,
    decode_commandWord .consume 0xFF#8 0xFF#8, decode_commandWord .resetLink 0x00#8 0x00#8,
    decode_commandWord .kfReset 0x00#8 0x00#8, decode_commandWord .kfApply 0x00#8 0x00#8,
    decode_illegalWord (decodeCommand_reservedBits (by decide)), rfl, rfl⟩

end Sys2Proof
end

section
/-!
SUPPORT. The operations the pseudo-instructions stand for, and the encoded frame byte by byte (30_encoding.md R100 to
R102, R110, R111).
-/

namespace Sys2Proof.Machine

/-! ## Pseudo-instructions -/

/-- The word the assembler puts together by shifts is the command word of the fields (R104, R110). -/
theorem shifted_fields_eq_commandWord (op a b : Byte) :
    (b.setWidth 32 <<< 16) ||| (a.setWidth 32 <<< 8) ||| op.setWidth 32 = commandWord op a b := by
  apply BitVec.eq_of_getLsbD_eq
  intro i hi
  simp only [getLsbD_commandWord, BitVec.getLsbD_or, BitVec.getLsbD_shiftLeft, BitVec.getLsbD_setWidth]
  have past : ∀ (x : Byte) (k : Nat), 8 ≤ k → x.getLsbD k = false := fun x k hk => BitVec.getLsbD_of_ge x k hk
  split_ifs with h8 h16 h24
  · simp [hi, h8, show i < 16 by omega]
  · simp [hi, h8, h16, past op i (by omega), show i - 8 < 32 by omega]
  · simp [hi, h8, h16, past op i (by omega), past a (i - 8) (by omega), show i - 16 < 32 by omega]
  · simp [h8, h16, past op i (by omega), past a (i - 8) (by omega), past b (i - 16) (by omega)]

theorem decode_expand_cmd (mark : Byte) (op : Opcode) (a b : Byte) :
    ((Pseudo.cmd op.code a b).expand mark).map decode = [Command.toInstr ⟨op, a, b⟩] := by
  rw [Pseudo.expand, shifted_fields_eq_commandWord]
  exact congrArg (fun i => [i]) (decode_commandWord op a b)

/-- The offset the assembler computes for `stage i` is the byte's own in the TXSTAGE window (R71). -/
theorem toNat_stageOffset {i : Nat} (hi : i ≤ 254) : (BitVec.ofNat 12 (0x400 + 4 * i)).toNat = 0x400 + 4 * i := by
  rw [BitVec.toNat_ofNat]
  omega

theorem decode_expand_stage (mark : Byte) {i : Nat} (hi : i ≤ 254) (v : Word) :
    ∃ off, ((Pseudo.stage i v).expand mark).map decode = [.busWrite off v] ∧ off.toNat = 0x400 + 4 * i ∧
      regAt off = .txstage i := by
  have hoff := toNat_stageOffset hi
  refine ⟨_, congrArg (fun i => [i]) (decode_plainWrite (fun e => ?_) v), hoff, regAt_eq_txstage hi hoff⟩
  rw [e] at hoff
  change 0x00C = _ at hoff
  omega

theorem decode_expand_frame (mark ty : Byte) (payload : List Byte) :
    ((Pseudo.frame ty payload).expand mark).map decode = (encodeFrame mark ty payload).map Instr.linkByte :=
  List.map_map

/-- Settles O5: a command statement expands to the word of `cmd` with its opcode; every other write is not at 0x00C. -/
theorem pseudoInstructionsExpandToTheirOperations : Obligations.PseudoInstructionsExpandToTheirOperations :=
  fun mark => ⟨decode_expand_cmd mark .nop 0x00#8 0x00#8, decode_expand_cmd mark .send,
    decode_expand_cmd mark .consume 0x00#8 0x00#8, decode_expand_cmd mark .resetLink 0x00#8 0x00#8,
    decode_expand_cmd mark .kfReset 0x00#8 0x00#8, decode_expand_cmd mark .kfApply 0x00#8 0x00#8,
    decode_expand_cmd mark, rfl, fun _ v hi => decode_expand_stage mark hi v, fun _ _ _ => rfl,
    decode_expand_frame mark, rfl, rfl⟩

/-! ## The encoded frame -/

/-- From byte 4 on a frame is its payload and the two checksum bytes, high byte first (R100, R102). -/
theorem encodeFrame_getElem?_four_add (mark ty : Byte) (payload : List Byte) (k : Nat) :
    let cs := checksum ty (BitVec.ofNat 8 payload.length) payload
    (encodeFrame mark ty payload)[4 + k]? = (payload ++ [sumHi cs, sumLo cs])[k]? := by
  rw [Nat.add_comm]
  rfl

/-- A frame's checksum is the exact sum, with the payload's size for LENGTH (R131). -/
theorem checksum_length_toNat (ty : Byte) {payload : List Byte} (h : payload.length ≤ 255) :
    (checksum ty (BitVec.ofNat 8 payload.length) payload).toNat =
      ty.toNat + payload.length + (payload.map BitVec.toNat).sum := by
  rw [checksum_toNat h, BitVec.toNat_ofNat, Nat.mod_eq_of_lt (Nat.lt_succ_of_le h)]

theorem sumHi_eq_ofNat (cs : Sum16) : sumHi cs = BitVec.ofNat 8 (cs.toNat / 256) := by
  rw [← sumHi_toNat, BitVec.ofNat_toNat, BitVec.setWidth_eq]

theorem sumLo_eq_ofNat (cs : Sum16) : sumLo cs = BitVec.ofNat 8 (cs.toNat % 256) := by
  rw [← sumLo_toNat, BitVec.ofNat_toNat, BitVec.setWidth_eq]

/-- Settles O11: the header stands in the definition; behind it are the payload and the two bytes of the exact sum. -/
theorem encodedFrameLayout : Obligations.EncodedFrameLayout := by
  intro mark ty payload h
  have hrest := encodeFrame_getElem?_four_add mark ty payload
  simp only [sumHi_eq_ofNat, sumLo_eq_ofNat, checksum_length_toNat ty h] at hrest
  refine ⟨length_encodeFrame mark ty payload, rfl, rfl, rfl, rfl, fun k hk => ?_, ?_, ?_⟩
  · rw [hrest, List.getElem?_append_left hk]
  · rw [hrest, List.getElem?_append_right le_rfl, Nat.sub_self]
    rfl
  · rw [Nat.add_right_comm 4 1, Nat.add_assoc, hrest, List.getElem?_append_right (Nat.le_add_right ..),
      Nat.add_sub_cancel_left]
    rfl

end Sys2Proof.Machine
end

section
/-!
SUPPORT. The envelope codec as a whole: the exact checksum, and `Decode` on any buffer, on an encoded frame and on one with a
byte replaced (40_envelope_codec.md R131 to R137).
-/

namespace Sys2Proof.Machine

/-! ## The checksum -/

/-- A byte sum reaches its bound only with every byte 0xFF. -/
theorem sum_toNat_eq_max_iff (l : List Byte) :
    (l.map BitVec.toNat).sum = 255 * l.length ↔ ∀ b ∈ l, b = 0xFF#8 := by
  induction l with
  | nil => simp
  | cons b l ih =>
    have hb := b.isLt
    have hl := sum_toNat_le l
    rw [List.forall_mem_cons, ← ih, ← BitVec.toNat_inj]
    simp only [List.map_cons, List.sum_cons, List.length_cons, BitVec.toNat_ofNat]
    omega

/-- The largest checksum comes only from the largest bytes (R131). -/
theorem checksum_eq_max_iff {ty len : Byte} {payload : List Byte} (h : payload.length = len.toNat) :
    (checksum ty len payload).toNat = 0xFFFF ↔ ty = 0xFF#8 ∧ len = 0xFF#8 ∧ ∀ b ∈ payload, b = 0xFF#8 := by
  have hty := ty.isLt
  have hlen := len.isLt
  have hsum := sum_toNat_le payload
  rw [checksum_toNat (by omega), ← sum_toNat_eq_max_iff, ← BitVec.toNat_inj, ← BitVec.toNat_inj]
  simp only [BitVec.toNat_ofNat]
  omega

theorem cap_le_of_legal {bd : Build} (h : bd.legal = true) : bd.cap ≤ 261 := by
  simp only [Build.legal, Bool.and_eq_true, decide_eq_true_eq] at h
  omega

/-- Settles O10: at most 257 bytes of at most 255 each stay below 65536, and reach 65535 only all together. -/
theorem checksumIsTheExactByteSum : Obligations.ChecksumIsTheExactByteSum := by
  intro ty len payload h
  have hty := ty.isLt
  have hlen := len.isLt
  have hsum := sum_toNat_le payload
  have hcs := checksum_toNat (ty := ty) (len := len) (payload := payload) (by omega)
  refine ⟨hcs, fun w hw => ?_, checksum_eq_max_iff h, fun hl bd hb => ?_, fun bd hp => ?_⟩
  · have hwide : 2 ^ 16 ≤ 2 ^ w := Nat.pow_le_pow_right Nat.two_pos hw
    rw [hcs, BitVec.toNat_ofNat, Nat.mod_eq_of_lt (by omega)]
  · have hcap := cap_le_of_legal hb
    rw [hl, BitVec.toNat_ofNat]
    omega
  · omega

/-- Settles O15: a sum sees neither the order of its terms nor two of them changed to the same sum. -/
theorem checksumIgnoresOrderAndCompensation : Obligations.ChecksumIgnoresOrderAndCompensation := by
  refine ⟨fun ty len p q hpq => ?_, fun ty len a b a' b' x y z hab => ?_⟩
  · rw [checksum, checksum, (hpq.map BitVec.toNat).sum_eq]
  · have hsum : ((x ++ a :: y ++ b :: z).map BitVec.toNat).sum = ((x ++ a' :: y ++ b' :: z).map BitVec.toNat).sum := by
      simp only [List.map_append, List.map_cons, List.sum_append, List.sum_cons]
      omega
    rw [checksum, checksum, hsum]

/-- Replacing one payload byte by a different one changes the checksum: it is the exact sum. -/
theorem checksum_set_ne {ty len v : Byte} {payload : List Byte} {j : Nat} (h : payload.length ≤ 255)
    (hj : j < payload.length) (hv : v ≠ payload[j]) : checksum ty len (payload.set j v) ≠ checksum ty len payload := by
  have sum_set (w : Byte) : ((payload.set j w).map BitVec.toNat).sum =
      ((payload.take j).map BitVec.toNat).sum + w.toNat + ((payload.drop (j + 1)).map BitVec.toNat).sum := by
    simp [List.map_set, List.sum_set, hj]
  have hsum := sum_set payload[j]
  rw [List.set_getElem_self] at hsum
  intro e
  apply hv
  rw [← BitVec.toNat_inj, checksum_toNat (by simpa using h), checksum_toNat h, hsum, sum_set] at e
  rw [← BitVec.toNat_inj]
  omega

theorem checksum_type_ne {ty ty' len : Byte} {payload : List Byte} (h : payload.length ≤ 255) (hv : ty' ≠ ty) :
    checksum ty' len payload ≠ checksum ty len payload := by
  intro e
  rw [← BitVec.toNat_inj, checksum_toNat h, checksum_toNat h] at e
  exact hv (BitVec.eq_of_toNat_eq (by omega))

/-! ## Decode -/

theorem decodeFrame_of_length_lt_four {buf : List Byte} (h : buf.length < 4) : decodeFrame buf = .error .framingError :=
  if_pos h

/-- A buffer that ends before its frame does (R133). -/
theorem decodeFrame_of_length_lt {m1 m2 ty len : Byte} {rest : List Byte}
    (h : (m1 :: m2 :: ty :: len :: rest).length < 6 + len.toNat) :
    decodeFrame (m1 :: m2 :: ty :: len :: rest) = .error .framingError := by
  rw [decodeFrame, if_neg (by simp)]
  exact if_pos h

theorem decodeFrame_layout_ok {m1 m2 ty len hi lo : Byte} {payload : List Byte} (tail : List Byte)
    (h : payload.length = len.toNat) (hcs : join16 hi lo = checksum ty len payload) :
    decodeFrame (m1 :: m2 :: ty :: len :: (payload ++ hi :: lo :: tail)) = .ok (ty, payload) := by
  rw [decodeFrame_layout (h := h), if_pos hcs]

theorem decodeFrame_layout_error {m1 m2 ty len hi lo : Byte} {payload : List Byte} (tail : List Byte)
    (h : payload.length = len.toNat) (hcs : join16 hi lo ≠ checksum ty len payload) :
    decodeFrame (m1 :: m2 :: ty :: len :: (payload ++ hi :: lo :: tail)) = .error .checksumError := by
  rw [decodeFrame_layout (h := h), if_neg hcs]

/-- Two checksum bytes match when their value is the byte sum modulo 65536 (R130, R133). -/
theorem join16_eq_checksum_iff (hi lo ty len : Byte) (payload : List Byte) :
    join16 hi lo = checksum ty len payload ↔
      hi.toNat * 256 + lo.toNat = (ty.toNat + len.toNat + (payload.map BitVec.toNat).sum) % 65536 :=
  join16_eq_iff hi lo _

/-- Settles O12: each answer is one branch of `Decode`, the last two on a buffer laid out as a frame. -/
theorem decodeChecksInOrder : Obligations.DecodeChecksInOrder := by
  refine fun buf => ⟨decodeFrame_of_length_lt_four, ?_⟩
  rintro m1 m2 ty len rest rfl
  refine ⟨decodeFrame_of_length_lt, ?_⟩
  rintro payload hi lo tail rfl hlen
  exact ⟨fun hne => decodeFrame_layout_error tail hlen (mt (join16_eq_checksum_iff hi lo ty len payload).mp hne),
    fun heq => decodeFrame_layout_ok tail hlen ((join16_eq_checksum_iff hi lo ty len payload).mpr heq)⟩

/-! ## Decode of an encoded frame -/

/-- LENGTH holds the size of a payload of at most 255 bytes (R132). -/
theorem length_eq_toNat_ofNat {payload : List Byte} (h : payload.length ≤ 255) :
    payload.length = (BitVec.ofNat 8 payload.length).toNat := by
  rw [BitVec.toNat_ofNat, Nat.mod_eq_of_lt (Nat.lt_succ_of_le h)]

/-- `Decode` of an encoded frame gives it back, whatever the two mark bytes have become (R134, R135). -/
theorem decodeFrame_anyMarks (m1 m2 ty : Byte) {payload : List Byte} (h : payload.length ≤ 255) :
    let len := BitVec.ofNat 8 payload.length
    let cs := checksum ty len payload
    decodeFrame (m1 :: m2 :: ty :: len :: (payload ++ [sumHi cs, sumLo cs])) = .ok (ty, payload) :=
  decodeFrame_layout_ok [] (length_eq_toNat_ofNat h) (join16_sum _)

/-- Settles O13: the frame is laid out as `Decode` reads it, and its two checksum bytes hold the checksum. -/
theorem decodeOfEncodeGivesTheFrameBack : Obligations.DecodeOfEncodeGivesTheFrameBack :=
  fun mark ty _ h => decodeFrame_anyMarks mark mark ty h

/-! ## Decode of a frame with one byte replaced -/

/-- Two bytes hold a sum exactly when they are its high and its low byte. -/
theorem join16_eq_iff_bytes (hi lo : Byte) (cs : Sum16) : join16 hi lo = cs ↔ hi = sumHi cs ∧ lo = sumLo cs := by
  have hlo := lo.isLt
  rw [join16_eq_iff, ← BitVec.toNat_inj, ← BitVec.toNat_inj, sumHi_toNat, sumLo_toNat]
  omega

/-- From byte 4 on a replaced byte is one of the payload and the two checksum bytes. -/
theorem encodeFrame_set_four_add (mark ty v : Byte) (payload : List Byte) (j : Nat) :
    let len := BitVec.ofNat 8 payload.length
    let cs := checksum ty len payload
    (encodeFrame mark ty payload).set (4 + j) v =
      mark :: mark :: ty :: len :: (payload ++ [sumHi cs, sumLo cs]).set j v := by
  rw [Nat.add_comm]
  rfl

/-- A wrong TYPE changes the computed checksum and not the stored one (R136). -/
theorem decodeFrame_set_type {mark ty v : Byte} {payload : List Byte} (h : payload.length ≤ 255) (hv : v ≠ ty) :
    decodeFrame ((encodeFrame mark ty payload).set 2 v) = .error .checksumError := by
  refine decodeFrame_layout_error [] (length_eq_toNat_ofNat h) ?_
  rw [join16_sum]
  exact (checksum_type_ne h hv).symm

/-- A wrong payload byte changes the computed checksum alone, a wrong checksum byte the stored one alone (R136). -/
theorem decodeFrame_set_four_add {mark ty v : Byte} {payload : List Byte} {j : Nat} (h : payload.length ≤ 255)
    (hj : j < payload.length + 2) (hv : v ≠ (encodeFrame mark ty payload).getD (4 + j) 0#8) :
    decodeFrame ((encodeFrame mark ty payload).set (4 + j) v) = .error .checksumError := by
  have hlen := length_eq_toNat_ofNat h
  rw [List.getD_eq_getElem?_getD, encodeFrame_getElem?_four_add] at hv
  rw [encodeFrame_set_four_add]
  obtain hp | rfl | rfl : j < payload.length ∨ j = payload.length ∨ j = payload.length + 1 := by omega
  · rw [List.set_append_left j v hp]
    refine decodeFrame_layout_error [] (List.length_set.trans hlen) ?_
    rw [join16_sum]
    refine (checksum_set_ne h hp ?_).symm
    simpa [List.getElem?_append_left hp, hp] using hv
  · rw [List.set_append_right _ v le_rfl, Nat.sub_self]
    refine decodeFrame_layout_error [] hlen ?_
    rw [Ne, join16_eq_iff_bytes]
    rintro ⟨rfl, -⟩
    simp at hv
  · rw [List.set_append_right _ v (Nat.le_add_right _ 1), Nat.add_sub_cancel_left]
    refine decodeFrame_layout_error [] hlen ?_
    rw [Ne, join16_eq_iff_bytes]
    rintro ⟨-, rfl⟩
    simp at hv

theorem xor_twoPow_ne {w k : Nat} (x : BitVec w) (hk : k < w) : x ^^^ BitVec.twoPow w k ≠ x := by
  intro e
  have hbit := congrArg (·.getLsbD k) e
  simp [hk] at hbit

/-- Settles O14: a flipped byte differs from what it was, and a different byte is seen wherever the checksum covers it or
holds it. The empty frame with LENGTH 1 ends a byte too early. -/
theorem singleBitCorruptionIsDetected : Obligations.SingleBitCorruptionIsDetected := by
  refine ⟨fun mark ty payload i k h hk hi => ⟨fun h4 => ?_, ?_, fun h2 => ?_⟩,
    0xFF#8, 0x00#8, [], 0, by decide, by decide, by decide⟩
  · obtain ⟨j, rfl⟩ := Nat.exists_eq_add_of_le h4
    exact decodeFrame_set_four_add h (by omega) (xor_twoPow_ne _ hk)
  · rintro rfl
    exact decodeFrame_set_type h (xor_twoPow_ne ty hk)
  · obtain rfl | rfl : i = 0 ∨ i = 1 := by omega
    · exact decodeFrame_anyMarks _ mark ty h
    · exact decodeFrame_anyMarks mark _ ty h

end Sys2Proof.Machine
end

section
/-!
SUPPORT. The receiver against the codec: the byte that completes a frame, and `Decode` of the bytes received
(40_envelope_codec.md introduction, 41_link_framer.md R159).
-/

namespace Sys2Proof.Machine

namespace State

@[simp] theorem length_rxSlice (s : State) (a n : Nat) : (s.rxSlice a n).length = n := by
  simp [rxSlice]

/-- A slice of the receive buffer (R7) splits where it is cut. -/
theorem rxSlice_add (s : State) (a m n : Nat) : s.rxSlice a (m + n) = s.rxSlice a m ++ s.rxSlice (a + m) n := by
  simp [rxSlice, List.range_add, Nat.add_assoc]

/-- `Decode` of the frame in the receive buffer makes the check of VALIDATING (R133, R159). -/
theorem decodeFrame_heldFrame (s : State) :
    decodeFrame (s.rxSlice 0 s.heldTotal) =
      if s.storedSum = s.computedSum then .ok (s.rxByte 2, s.rxSlice 4 s.rxLength) else .error .checksumError := by
  have hlayout : s.rxSlice 0 s.heldTotal =
      s.rxByte 0 :: s.rxByte 1 :: s.rxByte 2 :: s.rxByte 3 ::
        (s.rxSlice 4 s.rxLength ++ [s.rxByte (4 + s.rxLength), s.rxByte (5 + s.rxLength)]) := by
    rw [heldTotal, show 6 + s.rxLength = 4 + (s.rxLength + 2) by omega, rxSlice_add, rxSlice_add, Nat.zero_add,
      show 5 + s.rxLength = 4 + s.rxLength + 1 by omega]
    rfl
  rw [hlayout, decodeFrame_layout (h := s.length_rxSlice 4 s.rxLength)]
  rfl

/-- The byte that completes the frame validates it in the same exchange (R158, R159). -/
theorem receive_lastByte {s : State} (hi : 4 ≤ s.rx.index.toNat) (hn : s.rx.index.toNat + 1 = s.rx.expectedLength.toNat)
    (b : Byte) :
    s.receive b =
      if (s.storeRx b).storedSum = (s.storeRx b).computedSum then ((s.storeRx b).setDataReady true).restartRx
      else ((s.storeRx b).raise .cerr).restartRx := by
  have hlt := s.rx.expectedLength.isLt
  have hlast : s.rx.index + 1#9 = s.rx.expectedLength := BitVec.eq_of_toNat_eq ((toNat_succ (by omega)).trans hn)
  rw [receive_readPayload hi, readPayload_eq, if_pos hlast]

end State

/-- Settles O23: the receive buffer with its last byte is the frame `Decode` is given, and both make the same comparison. -/
theorem receiverAgreesWithDecode : Obligations.ReceiverAgreesWithDecode := by
  intro s b hs hen hi hn
  have hrx : s.advanceTx.RxInv := hs.rxInv.congr
  have hi' : 4 ≤ s.advanceTx.rx.index.toNat := by rwa [State.advanceTx_rx]
  have hn' : s.advanceTx.rx.index.toNat + 1 = s.advanceTx.rx.expectedLength.toNat := by rwa [State.advanceTx_rx]
  have htotal : s.rx.expectedLength.toNat = (s.advanceTx.storeRx b).heldTotal := by
    rw [← hrx.storeRx_heldTotal b hi', State.advanceTx_rx]
  have hlength : s.rx.expectedLength.toNat - 6 = (s.advanceTx.storeRx b).rxLength := by
    rw [htotal, State.heldTotal, Nat.add_sub_cancel_left]
  have hdecode := (s.advanceTx.storeRx b).decodeFrame_heldFrame
  refine ⟨_, execLinkByte_enabled hen b, ?_⟩
  rw [State.receive_lastByte hi' hn', hlength, htotal]
  by_cases hv : (s.advanceTx.storeRx b).storedSum = (s.advanceTx.storeRx b).computedSum
  · rw [if_pos hv] at hdecode ⊢
    exact .inl ⟨rfl, s.advanceTx_fstat, hdecode⟩
  · rw [if_neg hv] at hdecode ⊢
    exact .inr ⟨Bool.eq_false_of_not_eq_true (hrx.not_dataReady (by omega)),
      congrArg (FramerStatus.raise .cerr) s.advanceTx_fstat, hdecode⟩

end Sys2Proof.Machine
end

section
/-!
SUPPORT. The exchange: its two sides share no state (R165), so what it receives and what it transmits are each said
alone; then what it does at each receive position (41_link_framer.md R152 to R160).
-/

namespace Sys2Proof.Machine

namespace State

/-! ## The two sides (R165) -/

/-- The receive side does the same whatever the transmit state is. -/
theorem receive_setTx (s : State) (t : Tx) (b : Byte) : (s.setTx t).receive b = (s.receive b).setTx t := by
  obtain ⟨hrx, hfstat⟩ := receive_congr (s := s.setTx t) (t := s) rfl rfl rfl rfl b
  rw [receive_eq, hrx, hfstat, receive_eq s b]
  rfl

@[simp] theorem receive_txPending (s : State) (b : Byte) : (s.receive b).txPending = s.txPending := by
  rw [receive_eq]; rfl

@[simp] theorem receive_txOut (s : State) (b : Byte) : (s.receive b).txOut = s.txOut := by rw [receive_eq]; rfl

theorem receive_advanceTx (s : State) (b : Byte) : (s.receive b).advanceTx = s.advanceTx.receive b := by
  rw [advanceTx_eq, advanceTx_eq, receive_setTx, receive_txPending, receive_tx]

theorem receive_busy (s : State) (b : Byte) : (s.receive b).fstat.busy = s.fstat.busy := by
  have h := congrArg (fun t : State => t.fstat.busy) (receive_setBusy s s.fstat.busy b)
  exact h

/-- States that agree on the build, the receive state, FERR, CERR and OVR agree on them after a received byte. -/
theorem receive_congr_of_bits {s t : State} (hb : s.build = t.build) (hr : s.resets = t.resets) (hx : s.rx = t.rx)
    (hferr : s.fstat.ferr = t.fstat.ferr) (hcerr : s.fstat.cerr = t.fstat.cerr) (hovr : s.fstat.ovr = t.fstat.ovr)
    (b : Byte) :
    (s.receive b).rx = (t.receive b).rx ∧ (s.receive b).fstat.ferr = (t.receive b).fstat.ferr ∧
      (s.receive b).fstat.cerr = (t.receive b).fstat.cerr ∧ (s.receive b).fstat.ovr = (t.receive b).fstat.ovr := by
  have hf : (s.setFstat { s.fstat with busy := t.fstat.busy }).fstat = t.fstat := by
    simp only [setFstat_fstat, hferr, hcerr, hovr]
  obtain ⟨hrx, hfstat⟩ := receive_congr (s := s.setFstat { s.fstat with busy := t.fstat.busy }) hb hr hx hf b
  rw [receive_setBusy] at hrx hfstat
  rw [← hrx, ← hfstat]
  exact ⟨rfl, rfl, rfl, rfl⟩

/-- The transmit side reads the build, the reset count and the transmit state only. -/
theorem transmit_congr {s t : State} (hb : s.build = t.build) (hr : s.resets = t.resets) (hx : s.tx = t.tx) :
    s.advanceTx.tx = t.advanceTx.tx ∧ s.txOut = t.txOut := by
  obtain ⟨⟩ := s
  obtain ⟨⟩ := t
  simp only at hb hr hx
  subst hb hr hx
  rw [advanceTx_eq, advanceTx_eq]
  exact ⟨rfl, rfl⟩

/-! ## The exchange -/

/-- The state an enabled exchange leaves (`exec_linkByte_enabled`). -/
def exchange (s : State) (b : Byte) : State := (s.receive b).advanceTx.setOut (.sent s.txOut)

/-- What an enabled exchange changes (R165). -/
theorem exchange_frame (s : State) (b : Byte) :
    s.exchange b = (((s.setRx (s.receive b).rx).setTx s.advanceTx.tx).setFstat (s.receive b).fstat).setOut
      (.sent s.txOut) := by
  rw [exchange, advanceTx_eq, receive_txPending, receive_tx, receive_eq, advanceTx_eq]
  rfl

@[simp] theorem exchange_build (s : State) (b : Byte) : (s.exchange b).build = s.build := by rw [exchange_frame]; rfl
@[simp] theorem exchange_resets (s : State) (b : Byte) : (s.exchange b).resets = s.resets := by rw [exchange_frame]; rfl
@[simp] theorem exchange_ctrl (s : State) (b : Byte) : (s.exchange b).ctrl = s.ctrl := by rw [exchange_frame]; rfl
@[simp] theorem exchange_rx (s : State) (b : Byte) : (s.exchange b).rx = (s.receive b).rx := by rw [exchange_frame]; rfl
@[simp] theorem exchange_tx (s : State) (b : Byte) : (s.exchange b).tx = s.advanceTx.tx := by rw [exchange_frame]; rfl
@[simp] theorem exchange_fstat (s : State) (b : Byte) : (s.exchange b).fstat = (s.receive b).fstat := by
  rw [exchange_frame]; rfl
@[simp] theorem rxByte_exchange (s : State) (b : Byte) (j : Nat) : (s.exchange b).rxByte j = (s.receive b).rxByte j :=
  rxByte_advanceTx _ j

theorem advanceTx_of_pending {s : State} (h : s.txPending = true) :
    s.advanceTx = s.setTx { s.tx with index := s.tx.index + 1#9 } := if_pos h

theorem advanceTx_of_idle {s : State} (h : s.txPending = false) : s.advanceTx = s := by simp [advanceTx, h]

theorem txOut_of_pending {s : State} (h : s.txPending = true) : s.txOut = s.txByte s.tx.index.toNat := if_pos h

theorem txOut_of_idle {s : State} (h : s.txPending = false) : s.txOut = s.build.fill := by simp [txOut, h]

/-- A pending cursor counts on by one: it is below the end, so it does not wrap (R153). -/
theorem toNat_advanceTx_index {s : State} (h : s.tx.index < s.tx.expectedLength) :
    s.advanceTx.tx.index.toNat = s.tx.index.toNat + 1 := by
  have hlt : s.tx.index.toNat < s.tx.expectedLength.toNat := h
  have := s.tx.expectedLength.isLt
  rw [advanceTx_of_pending (decide_eq_true h)]
  exact toNat_succ (by omega)

end State

open State

theorem exec_linkByte_disabled {s : State} (h : s.ctrl.linkEn = false) (b : Byte) :
    exec (.linkByte b) s = .next (s.setOut (.sent s.build.fill)) := execLinkByte_disabled h b

theorem exec_linkByte_enabled {s : State} (h : s.ctrl.linkEn = true) (b : Byte) :
    exec (.linkByte b) s = .next (s.exchange b) := by
  rw [exchange, receive_advanceTx]
  exact execLinkByte_enabled h b

/-- What an exchange can do, by whether the link is enabled. -/
theorem exec_linkByte_cases {s t : State} {b : Byte} (h : exec (.linkByte b) s = .next t) :
    t = s.setOut (.sent s.build.fill) ∨ t = s.exchange b := by
  cases hen : s.ctrl.linkEn with
  | false => exact .inl (next_inj ((exec_linkByte_disabled hen b).symm.trans h))
  | true => exact .inr (next_inj ((exec_linkByte_enabled hen b).symm.trans h))

/-- Settles O16: a disabled exchange gives FILL and nothing more; CTRL is a plain register. -/
theorem disabledLinkChangesNothing : Obligations.DisabledLinkChangesNothing :=
  ⟨fun _ b h => exec_linkByte_disabled h b, fun s v => ⟨_, execBusWrite_plain (by decide) v s, rfl, rfl, rfl⟩⟩

/-- Settles O26: the two sides commute, and each reads and writes its own part of the state. -/
theorem transmitAndReceiveShareNoState : Obligations.TransmitAndReceiveShareNoState := by
  refine ⟨fun s b => ⟨receive_advanceTx s b, receive_txOut s b⟩, fun s b => ⟨receive_eq s b, receive_busy s b⟩,
    fun s => ?_, fun s t b hb hr hx hferr hcerr hovr => receive_congr_of_bits hb hr hx hferr hcerr hovr b,
    fun s t hb hr hx => transmit_congr hb hr hx⟩
  dsimp only
  rw [advanceTx_eq]
  exact ⟨rfl, rfl, rfl⟩

/-- Settles O17: the transmit side of an exchange by whether a frame is pending, and the frame of both sides. -/
theorem enabledExchangeTransmits : Obligations.EnabledExchangeTransmits := by
  intro s b hen
  refine ⟨_, exec_linkByte_enabled hen b, ?_, ?_, ?_, ?_, fun hp => ⟨?_, ?_⟩, fun hp => ⟨?_, ?_⟩, fun a ha => ?_⟩
  · rw [exchange_frame]; rfl
  · rw [exchange_fstat, receive_busy]
  · rw [exchange_tx, advanceTx_eq]; rfl
  · rw [exchange_tx, advanceTx_eq]; rfl
  · exact congrArg StepOutput.sent (txOut_of_pending (decide_eq_true hp))
  · rw [exchange_tx, toNat_advanceTx_index hp]
  · exact congrArg StepOutput.sent (txOut_of_idle (decide_eq_false hp))
  · rw [exchange_tx, advanceTx_of_idle (decide_eq_false hp)]
  · rw [rxByte_exchange, rxByte_receive ha]

namespace State

/-! ## The receive positions (R23) -/

theorem receive_mark1 {s : State} (h : s.rx.index = 0#9) : s.receive s.build.mark = s.storeRx s.build.mark := by
  rw [receive_awaitMark1 h, awaitMark1, if_pos rfl]

theorem receive_notMark1 {s : State} (h : s.rx.index = 0#9) {b : Byte} (hb : b ≠ s.build.mark) : s.receive b = s := by
  rw [receive_awaitMark1 h, awaitMark1, if_neg hb]

/-- The second mark arms a frame; OVR tells whether one was held (R155). -/
theorem receive_mark2 {s : State} (h : s.rx.index = 1#9) :
    s.receive s.build.mark = ((s.storeRx s.build.mark).setDataReady false).setFstat
      { s.fstat with ovr := s.fstat.ovr || s.rx.dataReady } := by
  rw [receive_awaitMark2 h, awaitMark2, if_pos rfl]
  obtain ⟨_, ⟨_, _, _, dataReady⟩, _⟩ := s
  cases dataReady
  · rw [if_neg (by simp)]
    simp [setDataReady, setFstat, setRx, storeRx, Rx.store]
  · rw [if_pos rfl]
    simp [raise, FramerStatus.raise]

theorem receive_notMark2 {s : State} (h : s.rx.index = 1#9) {b : Byte} (hb : b ≠ s.build.mark) :
    s.receive b = (s.setRx { s.rx with index := 0#9 }).raise .ferr := by
  rw [receive_awaitMark2 h, awaitMark2, if_neg hb]

theorem receive_tooLong {s : State} (h : s.rx.index = 3#9) {b : Byte} (hb : s.build.cap < 6 + b.toNat) :
    s.receive b = s.restartRx.raise .ferr := by
  rw [receive_readLength h, readLength, if_pos hb]

theorem receive_length {s : State} (h : s.rx.index = 3#9) {b : Byte} (hb : 6 + b.toNat ≤ s.build.cap) :
    s.receive b = (s.storeRx b).setRx { s.rx.store b with expectedLength := BitVec.ofNat 9 (6 + b.toNat) } := by
  rw [receive_readLength h, readLength, if_neg (Nat.not_lt.mpr hb)]
  rfl

/-- TYPE, and a byte of READING_PAYLOAD that is not the last, are stored (R157, R158). -/
theorem receive_stores {s : State}
    (h : s.rx.index = 2#9 ∨ (4 ≤ s.rx.index.toNat ∧ s.rx.index.toNat + 1 < s.rx.expectedLength.toNat)) (b : Byte) :
    s.receive b = s.storeRx b := by
  rcases h with h | ⟨h4, hlt⟩
  · exact receive_readType h b
  · have hmore : s.rx.index + 1#9 ≠ s.rx.expectedLength := fun e => by
      rw [← e, toNat_succ (by have := s.rx.expectedLength.isLt; omega)] at hlt
      omega
    rw [receive_readPayload h4, readPayload_eq, if_neg hmore]

theorem rxByte_storeRx_self {s : State} {i : Nat} (h : s.rx.index.toNat = i) (b : Byte) :
    (s.storeRx b).rxByte i = b := by
  rw [rxByte_storeRx, if_pos h]

/-- The check of VALIDATING over numbers (R130, R159). -/
theorem storedSum_eq_computedSum_iff (s : State) :
    s.storedSum = s.computedSum ↔
      (s.rxByte (4 + s.rxLength)).toNat * 256 + (s.rxByte (5 + s.rxLength)).toNat =
        ((s.rxByte 2).toNat + s.rxLength + ((List.range s.rxLength).map fun k => (s.rxByte (4 + k)).toNat).sum) %
          65536 := by
  rw [storedSum, computedSum, join16_eq_checksum_iff, rxSlice, List.map_map]
  rfl

end State

/-- Settles O18: AWAIT_MARK1, a mark and any other byte. -/
theorem awaitingTheFirstMark : Obligations.AwaitingTheFirstMark := by
  intro s b hen hi
  have hidx : s.rx.index.toNat = 0 := by rw [hi]; rfl
  refine ⟨_, exec_linkByte_enabled hen b, ?_⟩
  simp only [exchange_rx, exchange_fstat, rxByte_exchange]
  refine ⟨?_, ?_, fun hb => by rw [receive_notMark1 hi hb]⟩
  · by_cases hb : b = s.build.mark
    · rw [hb, receive_mark1 hi, storeRx_fstat]
    · rw [receive_notMark1 hi hb]
  · rintro rfl
    refine ⟨?_, fun a ha => rxByte_receive (by rwa [hidx]), ?_⟩
    · rw [receive_mark1 hi, rxByte_storeRx_self hidx]
    · rw [receive_mark1 hi, storeRx_rx, Rx.store, hi]
      rfl

/-- Settles O19: AWAIT_MARK2, a mark and any other byte. -/
theorem awaitingTheSecondMark : Obligations.AwaitingTheSecondMark := by
  intro s b hen hi
  have hidx : s.rx.index.toNat = 1 := by rw [hi]; rfl
  refine ⟨_, exec_linkByte_enabled hen b, ?_⟩
  simp only [exchange_rx, exchange_fstat, rxByte_exchange]
  refine ⟨?_, fun hb => by rw [receive_notMark2 hi hb]; exact ⟨rfl, rfl⟩⟩
  rintro rfl
  refine ⟨?_, fun a ha => rxByte_receive (by rwa [hidx]), ?_, ?_⟩
  · rw [receive_mark2 hi]
    exact rxByte_storeRx_self hidx _
  · rw [receive_mark2 hi, setFstat_rx, setDataReady_rx, storeRx_rx, Rx.store, hi]
    rfl
  · rw [receive_mark2 hi, setFstat_fstat]

/-- Settles O20: READING_LENGTH, a LENGTH that does not fit and one that does. -/
theorem readingTheLength : Obligations.ReadingTheLength := by
  intro s b _ hen hi
  have hidx : s.rx.index.toNat = 3 := by rw [hi]; rfl
  have hlt := b.isLt
  refine ⟨_, exec_linkByte_enabled hen b, ?_⟩
  simp only [exchange_rx, exchange_fstat, rxByte_exchange]
  refine ⟨fun hb => by rw [receive_tooLong hi hb]; exact ⟨rfl, rfl⟩, fun hb => ?_⟩
  refine ⟨?_, fun a ha => rxByte_receive (by rwa [hidx]), ?_⟩
  · rw [receive_length hi hb]
    exact rxByte_storeRx_self hidx b
  · rw [receive_length hi hb, setRx_rx, Rx.store_index, hi]
    exact ⟨rfl, (BitVec.toNat_ofNat _ _).trans (Nat.mod_eq_of_lt (by omega)), rfl, rfl⟩

/-- Settles O21: at these positions the byte is stored and nothing else happens. -/
theorem typeAndPayloadBytesAreStored : Obligations.TypeAndPayloadBytesAreStored := by
  intro s b hen hi
  have hroom : s.rx.index.toNat < 511 := by
    have := s.rx.expectedLength.isLt
    rcases hi with h | ⟨-, h⟩
    · rw [h]; decide
    · omega
  refine ⟨_, exec_linkByte_enabled hen b, ?_⟩
  simp only [exchange_rx, exchange_fstat, rxByte_exchange]
  refine ⟨?_, fun a ha => rxByte_receive ha, ?_⟩
  · rw [receive_stores hi, rxByte_storeRx_self rfl]
  · rw [receive_stores hi]
    exact ⟨toNat_succ hroom, rfl, rfl⟩

/-- Settles O22: the completing byte is stored, and the two outcomes go by the check of VALIDATING. -/
theorem validatingTheFrame : Obligations.ValidatingTheFrame := by
  intro s b hen h4 hn
  refine ⟨_, exec_linkByte_enabled hen b, ?_⟩
  simp only [exchange_rx, exchange_fstat, rxByte_exchange]
  have hcheck := (s.storeRx b).storedSum_eq_computedSum_iff
  have hstored : (s.storeRx b).rxByte s.rx.index.toNat = b := rxByte_storeRx_self rfl b
  have hkept := fun a => rxByte_receive (s := s) (b := b) (a := a)
  rw [receive_lastByte h4 hn] at hkept ⊢
  by_cases hv : (s.storeRx b).storedSum = (s.storeRx b).computedSum
  · rw [if_pos hv] at hkept ⊢
    exact ⟨hstored, hkept, rfl, rfl, fun _ => ⟨rfl, rfl⟩, fun hne => absurd (hcheck.mp hv) hne⟩
  · rw [if_neg hv] at hkept ⊢
    exact ⟨hstored, hkept, rfl, rfl, fun heq => absurd (hcheck.mpr heq) hv, fun _ => ⟨rfl, rfl⟩⟩

end Sys2Proof.Machine
end

section
/-!
SUPPORT. What an exchange can do to a held frame and what an error leaves (R160, R164), and the snapshot CONSUME takes
of the receive buffer (42_channel_commands.md R185).
-/

namespace Sys2Proof.Machine

/-! ## Decode ignores what follows the frame (R133) -/

theorem decodeFrame_append {buf : List Byte} {r : Byte × List Byte} (h : decodeFrame buf = .ok r) (tail : List Byte) :
    decodeFrame (buf ++ tail) = .ok r := by
  by_cases h4 : buf.length < 4
  · rw [decodeFrame_of_length_lt_four h4] at h
    cases h
  obtain ⟨m1, m2, ty, len, rest, rfl⟩ := eq_four_of_length (Nat.not_lt.mp h4)
  by_cases hl : (m1 :: m2 :: ty :: len :: rest).length < 6 + len.toNat
  · rw [decodeFrame_of_length_lt hl] at h
    cases h
  simp only [List.length_cons] at hl
  obtain ⟨hi, lo, more, hrest⟩ : ∃ hi lo more, rest.drop len.toNat = hi :: lo :: more := by
    match hd : rest.drop len.toNat with
    | hi :: lo :: more => exact ⟨hi, lo, more, rfl⟩
    | [] | [_] =>
      have := congrArg List.length hd
      simp at this
      omega
  have hpayload : (rest.take len.toNat).length = len.toNat := by
    rw [List.length_take]
    omega
  rw [← List.take_append_drop len.toNat rest, hrest] at h ⊢
  rw [decodeFrame_layout (h := hpayload)] at h
  simp only [List.cons_append, List.append_assoc]
  rw [decodeFrame_layout (h := hpayload)]
  exact h

namespace State

/-! ## Errors (R160) -/

/-- A byte that raises FERR or CERR leaves the cursors at rest and touches nothing else of the receiver but the byte it
stored before a failed check. -/
theorem Received.errorReset {s t : State} {b : Byte} (hr : Received s b t) (hc : s.RxCursorsOk)
    (he : (s.fstat.ferr = false ∧ t.fstat.ferr = true) ∨ (s.fstat.cerr = false ∧ t.fstat.cerr = true)) :
    t.rx.index = 0#9 ∧ t.rx.expectedLength = 4#9 ∧ t.rx.dataReady = s.rx.dataReady ∧
      (t.fstat = { s.fstat with ferr := true } ∨ t.fstat = { s.fstat with cerr := true }) ∧
      (t.fstat.ferr ≠ s.fstat.ferr → t.rx.buffer = s.rx.buffer) := by
  cases hr
  case badMark hi _ e =>
    subst e
    obtain ⟨-, -, hexp⟩ := hc
    exact ⟨rfl, hexp (by rw [hi]; decide), rfl, .inl rfl, fun _ => rfl⟩
  case tooLong _ _ e =>
    subst e
    exact ⟨rfl, rfl, rfl, .inl rfl, fun _ => rfl⟩
  case invalid _ _ _ e =>
    subst e
    exact ⟨rfl, rfl, rfl, .inr rfl, fun hne => absurd rfl hne⟩
  all_goals
    next e =>
    subst e
    rcases he with ⟨h0, h1⟩ | ⟨h0, h1⟩ <;> exact Bool.noConfusion (h0.symm.trans h1)

/-! ## A held frame (R164) -/

/-- Only the arming of a new frame ends a held one, and it raises OVR (R155). -/
theorem Received.overrun_of_lost {s t : State} {b : Byte} (hr : Received s b t) (hd : s.rx.dataReady = true)
    (ht : t.rx.dataReady = false) : t.fstat.ovr = true ∧ t.rx.index = 2#9 := by
  cases hr
  case overrun hi _ _ e =>
    subst e
    refine ⟨rfl, ?_⟩
    rw [raise_rx, setDataReady_rx, storeRx_rx, Rx.store_index, hi]
    rfl
  case mark2 hd' _ => exact Bool.noConfusion (hd'.symm.trans hd)
  case valid e =>
    subst e
    exact Bool.noConfusion ht
  all_goals
    next e =>
    subst e
    exact Bool.noConfusion (hd.symm.trans ht)

/-- Storing the byte that stands there already changes no byte. -/
theorem rxByte_storeRx_of_eq {s : State} {b : Byte} (h : s.rxByte s.rx.index.toNat = b) (j : Nat) :
    (s.storeRx b).rxByte j = s.rxByte j := by
  rw [rxByte_storeRx]
  split
  · next hj => exact hj ▸ h.symm
  · rfl

/-- While the receiver waits for the marks of a frame, a mark is all it stores: over two marks that changes no byte. -/
theorem rxByte_receive_of_marks {s : State} (hi : s.rx.index.toNat ≤ 1) (h0 : s.rxByte 0 = s.build.mark)
    (h1 : s.rxByte 1 = s.build.mark) (b : Byte) (j : Nat) : (s.receive b).rxByte j = s.rxByte j := by
  obtain h | h : s.rx.index = 0#9 ∨ s.rx.index = 1#9 := by
    simp only [← BitVec.toNat_inj, BitVec.toNat_ofNat]
    omega
  · by_cases hb : b = s.build.mark
    · rw [hb, receive_mark1 h, rxByte_storeRx_of_eq (by rw [h]; exact h0)]
    · rw [receive_notMark1 h hb]
  · by_cases hb : b = s.build.mark
    · rw [hb, receive_mark2 h]
      exact rxByte_storeRx_of_eq (by rw [h]; exact h1) j
    · rw [receive_notMark2 h hb]
      rfl

/-! ## The snapshot (R185) -/

/-- The state a CONSUME of a held frame leaves (`exec_consume_held`). -/
def consume (s : State) : State := (s.takeSnapshot.setDataReady false).finish 0x02#8 .ok

theorem snapByte_consume (s : State) {j : Nat} (hj : j < s.build.cap) : s.consume.snapByte j = s.rxByte j :=
  (snapByte_takeSnapshot s j).trans (if_pos hj)

/-- A piece of the snapshot is that piece of the receive buffer. -/
theorem snapshot_eq_rxSlice (s : State) {a n : Nat} (h : a + n ≤ s.build.cap) :
    ((List.range n).map fun k => s.consume.snapByte (a + k)) = s.rxSlice a n :=
  List.map_congr_left fun k hk => s.snapByte_consume (by have := List.mem_range.mp hk; omega)

theorem snapshot_eq_rxSlice_zero (s : State) {n : Nat} (h : n ≤ s.build.cap) :
    (List.range n).map s.consume.snapByte = s.rxSlice 0 n := by
  simpa using s.snapshot_eq_rxSlice (a := 0) (n := n) (by omega)

/-- The whole snapshot of a valid frame decodes to it, stale bytes after it and all (R133, R185). -/
theorem HoldsValidFrame.decodeFrame_snapshot {s : State} (h : s.HoldsValidFrame) :
    decodeFrame ((List.range s.build.cap).map s.consume.snapByte) = .ok (s.rxByte 2, s.rxSlice 4 s.rxLength) := by
  obtain ⟨hfit, -, -, hsum⟩ := h
  have hframe := s.decodeFrame_heldFrame
  rw [if_pos hsum] at hframe
  rw [s.snapshot_eq_rxSlice_zero le_rfl, ← Nat.add_sub_cancel' hfit, rxSlice_add]
  exact decodeFrame_append hframe _

end State

open State

theorem exec_consume_held {s : State} (h : s.rx.dataReady = true) (a b : Byte) :
    exec (.consume a b) s = .next s.consume := if_pos h

/-- Settles O25: a disabled exchange raises nothing, and of the receive side's cases three raise FERR or CERR. -/
theorem errorResetTouchesOnlyCursorsAndFlag : Obligations.ErrorResetTouchesOnlyCursorsAndFlag := by
  intro s t b hc h he
  rcases exec_linkByte_cases h with rfl | rfl
  · rcases he with ⟨h0, h1⟩ | ⟨h0, h1⟩ <;> exact Bool.noConfusion (h0.symm.trans h1)
  · simp only [exchange_rx, exchange_fstat, rxByte_exchange] at he ⊢
    obtain ⟨hi, hexp, hd, hflag, hbuffer⟩ := (receive_cases s b).errorReset hc he
    exact ⟨hi, hexp, hd, hflag, hbuffer, fun a ha => rxByte_receive ha⟩

/-- Settles O33: what a waiting receiver stores over a held frame is its own marks; the snapshot begins with the
frame. -/
theorem heldFrameIsUnchangedUntilConsumed : Obligations.HeldFrameIsUnchangedUntilConsumed := by
  intro s hs hd
  obtain ⟨hi, hheld⟩ := hs.dataReady hd
  obtain ⟨hfit, h0, h1, -⟩ := id hheld
  have hcap : 6 + (s.rxByte 3).toNat ≤ s.build.cap := hfit
  refine ⟨fun t b h => ?_, fun a b => ⟨_, exec_consume_held hd a b, ?_, ?_, ?_⟩⟩
  · rcases exec_linkByte_cases h with rfl | rfl
    · exact ⟨hheld.congr rfl fun _ => rfl, fun _ => rfl, fun ht => Bool.noConfusion (hd.symm.trans ht)⟩
    · have hkept (j : Nat) : (s.exchange b).rxByte j = s.rxByte j := by
        rw [rxByte_exchange, rxByte_receive_of_marks hi h0 h1]
      rw [exchange_rx, exchange_fstat]
      exact ⟨hheld.congr (exchange_build s b) hkept, hkept, (receive_cases s b).overrun_of_lost hd⟩
  · rw [snapByte_consume s (by omega), h0]
  · rw [snapByte_consume s (by omega), h1]
  · rw [hheld.decodeFrame_snapshot, snapByte_consume s (by omega), snapByte_consume s (by omega),
      snapshot_eq_rxSlice s (by omega)]
    rfl

end Sys2Proof.Machine
end

section
/-!
SUPPORT. Runs of received bytes: stray bytes and a whole frame (41_link_framer.md R154 to R161).
-/

namespace Sys2Proof.Machine

theorem Memory.writeBytes_append (m : Memory) (i : Nat) (as bs : List Byte) :
    Memory.writeBytes m i (as ++ bs) = Memory.writeBytes (Memory.writeBytes m i as) (i + as.length) bs := by
  induction as generalizing m i with
  | nil => rfl
  | cons a as ih =>
    rw [List.length_cons, show i + (as.length + 1) = i + 1 + as.length by omega]
    exact ih (Memory.write m i a) (i + 1)

namespace State

/-- The receive side over a list of bytes: what a run of exchanges receives (`runLink_agrees`). -/
def receiveAll : List Byte → State → State
  | [], s => s
  | b :: bs, s => receiveAll bs (s.receive b)

theorem receiveAll_append (s : State) (as bs : List Byte) :
    s.receiveAll (as ++ bs) = (s.receiveAll as).receiveAll bs := by
  induction as generalizing s with
  | nil => rfl
  | cons a as ih => exact ih (s.receive a)

/-! ## Stray bytes (R154, R161) -/

/-- In AWAIT_MARK1 bytes that are no mark are ignored. -/
theorem receiveAll_ignored {s : State} (hi : s.rx.index = 0#9) {junk : List Byte}
    (h : ∀ x ∈ junk, x ≠ s.build.mark) : s.receiveAll junk = s := by
  induction junk with
  | nil => rfl
  | cons x junk ih =>
    rw [receiveAll, receive_notMark1 hi (h x (by simp))]
    exact ih fun y hy => h y (List.mem_cons_of_mem x hy)

theorem storeRx_index_of_zero {s : State} (hi : s.rx.index = 0#9) (b : Byte) : (s.storeRx b).rx.index = 1#9 := by
  rw [storeRx_rx, Rx.store_index, hi]
  rfl

/-- A mark, a byte that is none and stray bytes: the receiver is back in AWAIT_MARK1, with the mark stored and FERR
raised (R155). -/
theorem receiveAll_falseStart {s : State} (hi : s.rx.index = 0#9) {c : Byte} (hc : c ≠ s.build.mark) {junk : List Byte}
    (hjunk : ∀ x ∈ junk, x ≠ s.build.mark) :
    s.receiveAll ([s.build.mark, c] ++ junk) =
      (s.setRx { s.rx with buffer := Memory.write s.rx.buffer 0 s.build.mark, index := 0#9 }).raise .ferr := by
  simp only [receiveAll_append, receiveAll]
  rw [receive_mark1 hi, receive_notMark2 (storeRx_index_of_zero hi _) hc, storeRx_rx, Rx.store, hi]
  exact receiveAll_ignored rfl hjunk

/-! ## A whole frame (R154 to R159) -/

/-- Two marks take the receiver from AWAIT_MARK1 to READING_TYPE, with OVR over a held frame (R154, R155). -/
theorem receiveAll_marks {s : State} (hi : s.rx.index = 0#9) :
    s.receiveAll [s.build.mark, s.build.mark] =
      (s.setRx { s.rx with buffer := Memory.writeBytes s.rx.buffer 0 [s.build.mark, s.build.mark], index := 2#9,
                           dataReady := false }).setFstat { s.fstat with ovr := s.fstat.ovr || s.rx.dataReady } := by
  have harmed := receive_mark2 (storeRx_index_of_zero hi s.build.mark)
  rw [storeRx_build] at harmed
  rw [receiveAll, receive_mark1 hi, receiveAll, harmed, receiveAll]
  simp only [storeRx, Rx.store, setRx_rx, hi]
  rfl

/-- The header of a frame that fits takes the receiver from AWAIT_MARK1 to READING_PAYLOAD. -/
theorem receiveAll_header {s : State} (hi : s.rx.index = 0#9) (ty : Byte) {len : Byte}
    (hl : 6 + len.toNat ≤ s.build.cap) :
    s.receiveAll [s.build.mark, s.build.mark, ty, len] =
      (s.setRx { buffer := Memory.writeBytes s.rx.buffer 0 [s.build.mark, s.build.mark, ty, len], index := 4#9,
                 expectedLength := BitVec.ofNat 9 (6 + len.toNat), dataReady := false }).setFstat
        { s.fstat with ovr := s.fstat.ovr || s.rx.dataReady } := by
  change s.receiveAll ([s.build.mark, s.build.mark] ++ [ty, len]) = _
  rw [receiveAll_append, receiveAll_marks hi, receiveAll, receive_stores (.inl rfl), receiveAll,
    receive_length (by rfl) (by exact hl)]
  rfl

/-- Bytes of READING_PAYLOAD before the last are stored in order (R158). -/
theorem receiveAll_payload {s : State} {bs : List Byte} (h4 : 4 ≤ s.rx.index.toNat)
    (hn : s.rx.index.toNat + bs.length < s.rx.expectedLength.toNat) :
    s.receiveAll bs = s.setRx { s.rx with buffer := Memory.writeBytes s.rx.buffer s.rx.index.toNat bs,
                                          index := s.rx.index + BitVec.ofNat 9 bs.length } := by
  induction bs generalizing s with
  | nil =>
    rw [List.length_nil, BitVec.add_zero]
    rfl
  | cons b bs ih =>
    rw [List.length_cons] at hn ⊢
    have hsucc : (s.storeRx b).rx.index.toNat = s.rx.index.toNat + 1 :=
      toNat_succ (by have := s.rx.expectedLength.isLt; omega)
    have hindex : (s.storeRx b).rx.index + BitVec.ofNat 9 bs.length = s.rx.index + BitVec.ofNat 9 (bs.length + 1) := by
      rw [storeRx_rx, Rx.store_index, BitVec.add_assoc, Nat.add_comm bs.length, BitVec.ofNat_add]
    have hroom : (s.storeRx b).rx.index.toNat + bs.length < (s.storeRx b).rx.expectedLength.toNat := by
      rw [hsucc, storeRx_rx, Rx.store_expectedLength]
      omega
    rw [receiveAll, receive_stores (.inr ⟨h4, by omega⟩), ih (by omega) hroom, hindex, hsucc]
    rfl

/-- The bytes of READING_PAYLOAD up to the last are stored in order, and the last one has the frame validated (R158,
R159). -/
theorem receiveAll_toEnd {s : State} {bs : List Byte} {b : Byte} (h4 : 4 ≤ s.rx.index.toNat)
    (hn : s.rx.index.toNat + bs.length + 1 = s.rx.expectedLength.toNat) {t : State}
    (ht : t = s.setRx { s.rx with buffer := Memory.writeBytes s.rx.buffer s.rx.index.toNat (bs ++ [b]) }) :
    s.receiveAll (bs ++ [b]) =
      if t.storedSum = t.computedSum then (t.setDataReady true).restartRx else (t.raise .cerr).restartRx := by
  have hindex : (s.rx.index + BitVec.ofNat 9 bs.length).toNat = s.rx.index.toNat + bs.length := by
    have := s.rx.expectedLength.isLt
    rw [BitVec.toNat_add, BitVec.toNat_ofNat]
    omega
  rw [receiveAll_append, receiveAll_payload h4 (by omega), receiveAll, receiveAll,
    receive_lastByte (by rw [setRx_rx, hindex]; omega) (by rw [setRx_rx, hindex, hn])]
  rw [Memory.writeBytes_append] at ht
  simp only [storeRx, Rx.store, setRx_rx, hindex]
  subst ht
  rfl

/-- The bytes of a slice are the bytes of the buffer. -/
theorem rxByte_of_rxSlice {s : State} {n j : Nat} {l : List Byte} {x : Byte} (h : s.rxSlice 0 n = l)
    (hx : l[j]? = some x) : s.rxByte j = x := by
  subst h
  obtain ⟨hj, hx⟩ := List.getElem?_eq_some_iff.mp hx
  simpa [rxSlice] using hx

/-- An encoded frame in the receive buffer passes the check of VALIDATING, since `Decode` accepts it (R135, R159). -/
theorem check_of_encodeFrame {s : State} {mark ty : Byte} {payload : List Byte} (hp : payload.length ≤ 255)
    (h : s.rxSlice 0 (encodeFrame mark ty payload).length = encodeFrame mark ty payload) :
    s.storedSum = s.computedSum := by
  have hlen : s.rxLength = payload.length := by
    rw [rxLength, rxByte_of_rxSlice (j := 3) h rfl, ← length_eq_toNat_ofNat hp]
  have hdecode := s.decodeFrame_heldFrame
  rw [heldTotal, hlen, ← length_encodeFrame mark ty payload, h, decodeOfEncodeGivesTheFrameBack mark ty payload hp]
    at hdecode
  by_contra hv
  rw [if_neg hv] at hdecode
  cases hdecode

/-- The state with a whole frame received: its bytes stand in `rx_buffer`, the receiver is back in AWAIT_MARK1, and OVR
tells whether an unconsumed frame was lost. -/
def deliver (s : State) (frame : List Byte) : State :=
  (s.setRx { buffer := Memory.writeBytes s.rx.buffer 0 frame, index := 0#9, expectedLength := 4#9,
             dataReady := true }).setFstat { s.fstat with ovr := s.fstat.ovr || s.rx.dataReady }

theorem rxSlice_writeBytes (s : State) (r : Rx) (bs : List Byte) (h : r.buffer = Memory.writeBytes s.rx.buffer 0 bs) :
    (s.setRx r).rxSlice 0 bs.length = bs := by
  apply List.ext_getElem (length_rxSlice _ _ _)
  intro j _ hj
  have hread := Memory.read_writeBytes (Config.powerOnByte s.resets .rxBuffer) s.rx.buffer 0 bs j
  rw [if_pos (by omega), ← h] at hread
  simp only [rxSlice, List.getElem_map, List.getElem_range, Nat.zero_add]
  rw [show (s.setRx r).rxByte j = _ from hread]
  simp [hj]

theorem rxSlice_deliver (s : State) (frame : List Byte) : (s.deliver frame).rxSlice 0 frame.length = frame :=
  rxSlice_writeBytes s _ frame rfl

/-- A frame met in AWAIT_MARK1 that fits is received whole (R154 to R159). -/
theorem receiveAll_frame {s : State} {mark : Byte} (hi : s.rx.index = 0#9) (hm : s.build.mark = mark) (ty : Byte)
    {payload : List Byte} (hp : payload.length ≤ 255) (hfit : 6 + payload.length ≤ s.build.cap) :
    s.receiveAll (encodeFrame mark ty payload) = s.deliver (encodeFrame mark ty payload) := by
  subst hm
  generalize hcs : checksum ty (BitVec.ofNat 8 payload.length) payload = cs
  have hframe : encodeFrame s.build.mark ty payload =
      [s.build.mark, s.build.mark, ty, BitVec.ofNat 8 payload.length] ++ ((payload ++ [sumHi cs]) ++ [sumLo cs]) := by
    simp [encodeFrame, hcs]
  have hlen := length_eq_toNat_ofNat hp
  have hexp : (BitVec.ofNat 9 (6 + (BitVec.ofNat 8 payload.length).toNat)).toNat = 6 + payload.length := by
    rw [← hlen, BitVec.toNat_ofNat]
    omega
  have hcheck := check_of_encodeFrame (mark := s.build.mark) (ty := ty) hp (rxSlice_deliver s _)
  rw [hframe] at hcheck ⊢
  rw [receiveAll_append, receiveAll_header hi ty (by omega), receiveAll_toEnd (by exact le_refl 4) ?_ rfl]
  · rw [deliver, Memory.writeBytes_append _ _ [_, _, _, _]] at hcheck ⊢
    exact if_pos hcheck
  · rw [setFstat_rx, setRx_rx, hexp, List.length_append]
    change 4 + (payload.length + 1) + 1 = _
    omega

end State
end Sys2Proof.Machine
end

section
/-!
SUPPORT. Runs of exchanges, their two sides apart: what is received, and what is transmitted; then a frame from one
block to another (41_link_framer.md R153, R161, R162, 42_channel_commands.md R184, R185).
-/

namespace Sys2Proof.Machine

open State

theorem runLink_cons_exchange {s : State} (h : s.ctrl.linkEn = true) (b : Byte) (bs : List Byte) :
    runLink (b :: bs) s = ((runLink bs (s.exchange b)).1, s.txOut :: (runLink bs (s.exchange b)).2) := by
  rw [exchange, receive_advanceTx]
  exact runLink_cons h b bs

/-! ## The receive side of a run -/

/-- The two states agree on all the receive side reads and writes (R165). -/
structure RxAgrees (s t : State) : Prop where
  build : s.build = t.build
  resets : s.resets = t.resets
  rx : s.rx = t.rx
  fstat : s.fstat = t.fstat

theorem RxAgrees.trans {s t u : State} (h : RxAgrees s t) (h' : RxAgrees t u) : RxAgrees s u :=
  ⟨h.build.trans h'.build, h.resets.trans h'.resets, h.rx.trans h'.rx, h.fstat.trans h'.fstat⟩

theorem RxAgrees.rxSlice {s t : State} (h : RxAgrees s t) (a n : Nat) : s.rxSlice a n = t.rxSlice a n := by
  simp only [State.rxSlice, State.rxByte, h.resets, h.rx]

theorem RxAgrees.receive {s t : State} (h : RxAgrees s t) (b : Byte) : RxAgrees (s.receive b) (t.receive b) := by
  obtain ⟨hrx, hfstat⟩ := receive_congr h.build h.resets h.rx h.fstat b
  exact ⟨by rw [receive_build, receive_build, h.build], by rw [receive_resets, receive_resets, h.resets], hrx, hfstat⟩

theorem RxAgrees.receiveAll {s t : State} (h : RxAgrees s t) (bs : List Byte) :
    RxAgrees (s.receiveAll bs) (t.receiveAll bs) := by
  induction bs generalizing s t with
  | nil => exact h
  | cons b bs ih => exact ih (h.receive b)

theorem exchange_agrees (s : State) (b : Byte) : RxAgrees (s.exchange b) (s.receive b) :=
  ⟨by rw [exchange_build, receive_build], by rw [exchange_resets, receive_resets], exchange_rx s b, exchange_fstat s b⟩

/-- The receive side of a run of exchanges is the receive side over its bytes. -/
theorem runLink_agrees {s : State} (h : s.ctrl.linkEn = true) (bs : List Byte) :
    RxAgrees (runLink bs s).1 (s.receiveAll bs) := by
  induction bs generalizing s with
  | nil => exact ⟨rfl, rfl, rfl, rfl⟩
  | cons b bs ih =>
    rw [runLink_cons_exchange h]
    exact (ih (by rwa [exchange_ctrl])).trans ((exchange_agrees s b).receiveAll bs)

/-- A payload of at most PMAX bytes is one of at most 255, whose frame fits in CAP (R5). -/
theorem fits_of_le_pmax {bd : Build} (hb : bd.legal = true) {n : Nat} (h : n ≤ bd.pmax) : n ≤ 255 ∧ 6 + n ≤ bd.cap := by
  have := cap_ge_of_legal hb
  have := cap_le_of_legal hb
  unfold Build.pmax at h
  omega

/-- Settles O28: the false start raises FERR, the stray bytes are ignored, and the frame is then met in AWAIT_MARK1. -/
theorem frameIsReceivedAfterFalseStart : Obligations.FrameIsReceivedAfterFalseStart := by
  intro s ty c junk payload hs hen hi hc hjunk hp
  obtain ⟨hp255, hfit⟩ := fits_of_le_pmax hs.build hp
  have hrun := runLink_agrees hen ([s.build.mark, c] ++ junk ++ encodeFrame s.build.mark ty payload)
  rw [receiveAll_append, receiveAll_falseStart hi hc hjunk,
    receiveAll_frame (by rfl) (by rfl) ty hp255 (by exact hfit)] at hrun
  exact ⟨hrun.rx ▸ rfl, hrun.rx ▸ rfl, (hrun.rxSlice _ _).trans (rxSlice_deliver _ _), hrun.fstat⟩

/-! ## CONSUME while a frame is awaited (R162) -/

/-- CONSUME clears `data_ready`; to the receive side it is nothing else. -/
theorem RxAgrees.consume {s t : State} (h : RxAgrees s t) : RxAgrees s.consume (t.setDataReady false) :=
  ⟨h.build, h.resets, congrArg (fun r : Rx => { r with dataReady := false }) h.rx, h.fstat⟩

/-- Before the second mark the receive side does not look at `data_ready`, and raises nothing. -/
theorem receiveAll_beforeSecondMark {s : State} (hi : s.rx.index = 0#9) {bs : List Byte} (h : bs.length ≤ 1)
    (v : Bool) :
    (s.setDataReady v).receiveAll bs = (s.receiveAll bs).setDataReady v ∧ (s.receiveAll bs).fstat = s.fstat ∧
      (s.receiveAll bs).rx.dataReady = s.rx.dataReady := by
  match bs, h with
  | [], _ => exact ⟨rfl, rfl, rfl⟩
  | [b], _ =>
    simp only [receiveAll]
    by_cases hb : b = s.build.mark
    · rw [hb, receive_mark1 hi]
      exact ⟨receive_mark1 (s := s.setDataReady v) hi, rfl, rfl⟩
    · rw [receive_notMark1 hi hb]
      exact ⟨receive_notMark1 (s := s.setDataReady v) hi hb, rfl, rfl⟩

/-- The first mark of the next frame changes no byte of a buffer that begins with two marks. -/
theorem rxSlice_receiveAll_of_marks {s : State} (hi : s.rx.index = 0#9) (h0 : s.rxByte 0 = s.build.mark)
    (h1 : s.rxByte 1 = s.build.mark) {bs : List Byte} (h : bs.length ≤ 1) (a n : Nat) :
    (s.receiveAll bs).rxSlice a n = s.rxSlice a n := by
  match bs, h with
  | [], _ => rfl
  | [b], _ =>
    have hidx : s.rx.index.toNat ≤ 1 := by rw [hi]; decide
    exact List.map_congr_left fun k _ => rxByte_receive_of_marks hidx h0 h1 b (a + k)

/-- Settles O29: to the receive side CONSUME only clears `data_ready`, at either place of the window, and the second
frame is then met as if it had been consumed before its first mark. -/
theorem backToBackFramesAreDelivered : Obligations.BackToBackFramesAreDelivered := by
  intro s ty1 ty2 a b p1 p2 before after hs hen hi hp1 hp2 hsplit hbefore f1 f2
  change f2 = before ++ after at hsplit
  obtain ⟨hp1, hfit1⟩ := fits_of_le_pmax hs.build hp1
  obtain ⟨hp2, hfit2⟩ := fits_of_le_pmax hs.build hp2
  have hfirst : s.receiveAll f1 = s.deliver f1 := receiveAll_frame hi rfl ty1 hp1 hfit1
  have hsecond {t : State} (ht : t.rx.index = 0#9) (hb : t.build = s.build) : t.receiveAll f2 = t.deliver f2 :=
    receiveAll_frame ht (hb ▸ rfl) ty2 hp2 (hb ▸ hfit2)
  have hslice : (s.deliver f1).rxSlice 0 f1.length = f1 := rxSlice_deliver s f1
  refine ⟨?_, ?_⟩
  · have hrun := runLink_agrees hen (f1 ++ before)
    rw [receiveAll_append, hfirst] at hrun
    obtain ⟨hconsumed, hfstat, hready⟩ := receiveAll_beforeSecondMark (s := s.deliver f1) rfl hbefore false
    obtain ⟨hctrl, hbuild⟩ := runLink_frame hen (f1 ++ before)
    have hcap : f1.length ≤ (runLink (f1 ++ before) s).1.build.cap := by
      rw [hbuild, length_encodeFrame]
      exact hfit1
    refine ⟨_, exec_consume_held (hrun.rx ▸ hready) a b, rfl, ?_, ?_⟩
    · rw [snapshot_eq_rxSlice_zero _ hcap, hrun.rxSlice, rxSlice_receiveAll_of_marks rfl (rxByte_of_rxSlice hslice rfl)
        (rxByte_of_rxSlice hslice rfl) hbefore, hslice]
    · have hrest := (runLink_agrees (s := (runLink (f1 ++ before) s).1.consume) (hctrl ▸ hen) after).trans
        (hrun.consume.receiveAll after)
      rw [← hconsumed, ← receiveAll_append, ← hsplit, hsecond (by rfl) (by rfl)] at hrest
      have hnew : ((s.deliver f1).setDataReady false |>.deliver f2).fstat = (s.deliver f1).fstat :=
        congrArg (fun o => { (s.deliver f1).fstat with ovr := o }) (Bool.or_false _)
      exact ⟨hrest.rx ▸ rfl, (hrest.rxSlice _ _).trans (rxSlice_deliver _ _),
        (hrest.fstat.trans hnew).trans (hrun.fstat.trans hfstat).symm⟩
  · have hrun := runLink_agrees hen (f1 ++ f2)
    rw [receiveAll_append, hfirst, hsecond (by rfl) (by rfl)] at hrun
    exact ⟨hrun.rx ▸ rfl, (hrun.rxSlice _ _).trans (rxSlice_deliver _ _), hrun.fstat ▸ Bool.or_true _⟩

/-! ## The transmit side of a run -/

/-- As many exchanges as a pending frame has bytes left send these, and then nothing is pending (R153). -/
theorem runLink_drains {s : State} (h : s.ctrl.linkEn = true) {bs : List Byte}
    (hn : s.tx.index.toNat + bs.length = s.tx.expectedLength.toNat) :
    (runLink bs s).2 = (List.range' s.tx.index.toNat bs.length).map s.txByte ∧ (runLink bs s).1.txPending = false := by
  induction bs generalizing s with
  | nil =>
    refine ⟨rfl, decide_eq_false fun hlt => ?_⟩
    have hlt : s.tx.index.toNat < s.tx.expectedLength.toNat := hlt
    simp only [List.length_nil] at hn
    omega
  | cons b bs ih =>
    rw [List.length_cons] at hn ⊢
    have hlt : s.tx.index < s.tx.expectedLength := BitVec.lt_def.mpr (by omega)
    have hp : s.txPending = true := decide_eq_true hlt
    have hsucc : (s.exchange b).tx.index.toNat = s.tx.index.toNat + 1 := by
      rw [exchange_tx, toNat_advanceTx_index hlt]
    have hexp : (s.exchange b).tx.expectedLength = s.tx.expectedLength := by
      rw [exchange_tx, advanceTx_of_pending hp, setTx_tx]
    have hbyte : (s.exchange b).txByte = s.txByte := by
      funext j
      rw [txByte, exchange_tx, advanceTx_of_pending hp, exchange_resets]
      rfl
    obtain ⟨hsent, hidle⟩ := ih (s := s.exchange b) (by rwa [exchange_ctrl]) (by rw [hsucc, hexp]; omega)
    rw [hbyte, hsucc] at hsent
    rw [runLink_cons_exchange h, List.range'_succ, List.map_cons, hsent, txOut_of_pending hp]
    exact ⟨rfl, hidle⟩

/-- An accepted SEND (R184). -/
theorem exec_send_accepted {s : State} {ty len : Byte} (hp : s.txPending = false) (hl : 6 + len.toNat ≤ s.build.cap) :
    exec (.send ty len) s =
      .next ((s.loadTx (encodeFrame s.build.mark ty (s.stageSlice len.toNat))).finish 0x01#8 .ok) := by
  change execSend ty len s = _
  rw [execSend, if_neg (by rw [hp]; decide), if_neg (Nat.not_lt.mpr hl)]

/-- The exchanges after an accepted SEND transmit its frame (R153, R184). -/
theorem runLink_loadTx {s : State} (h : s.ctrl.linkEn = true) {frame received : List Byte} (hf : frame.length < 512)
    (hn : received.length = frame.length) :
    let t := (s.loadTx frame).finish 0x01#8 .ok
    (runLink received t).2 = frame ∧ (runLink received t).1.txPending = false := by
  intro t
  have hexp : t.tx.expectedLength.toNat = frame.length := (BitVec.toNat_ofNat _ _).trans (Nat.mod_eq_of_lt hf)
  obtain ⟨hsent, hidle⟩ := runLink_drains (s := t) h (bs := received) (by rw [hexp, ← hn]; exact Nat.zero_add _)
  refine ⟨?_, hidle⟩
  rw [hsent, hn]
  change (List.range' 0 frame.length).map (s.loadTx frame).txByte = frame
  apply List.ext_getElem (by simp)
  intro j _ hj
  simp [txByte_loadTx, hj]

/-- Settles O27: the frame is loaded with its cursor at its start, and then drains. -/
theorem sentFrameDrainsInOrder : Obligations.SentFrameDrainsInOrder := by
  intro s ty len received _ hen hp hl hn
  have hlen := len.isLt
  refine ⟨_, exec_send_accepted hp hl, runLink_loadTx hen ?_ ?_⟩
  · rw [length_encodeFrame, length_stageSlice]
    omega
  · rw [length_encodeFrame, length_stageSlice, hn]

/-- Settles O30: the receiver meets the sender's frame in AWAIT_MARK1, and its snapshot is that frame and stale
bytes. -/
theorem frameTravelsBetweenTwoBlocks : Obligations.FrameTravelsBetweenTwoBlocks := by
  intro s r ty len a b received hs hr hmark hens henr hp hi hls hlr hn
  generalize hframe : encodeFrame s.build.mark ty (s.stageSlice len.toNat) = frame
  have hlen := len.isLt
  have hlength : frame.length = 6 + len.toNat := by rw [← hframe, length_encodeFrame, length_stageSlice]
  have hp255 : (s.stageSlice len.toNat).length ≤ 255 := by rw [length_stageSlice]; omega
  have hdecode : decodeFrame frame = .ok (ty, s.stageSlice len.toNat) :=
    hframe ▸ decodeOfEncodeGivesTheFrameBack s.build.mark ty _ hp255
  obtain ⟨hsent, -⟩ := runLink_loadTx (received := received) hens (by omega : frame.length < 512) (by omega)
  have hrun := runLink_agrees henr frame
  rw [← hframe, receiveAll_frame hi hmark.symm ty hp255 (by rwa [length_stageSlice]), hframe] at hrun
  obtain ⟨-, hbuild⟩ := runLink_frame henr frame
  refine ⟨_, (runLink frame r).1.consume, exec_send_accepted hp hls, ?_, rfl, ?_⟩
  · rw [hframe, hsent]
    exact exec_consume_held (hrun.rx ▸ rfl) a b
  · rw [snapshot_eq_rxSlice_zero _ (by rw [hbuild]), hrun.rxSlice, ← Nat.add_sub_cancel' hlr, ← hlength, rxSlice_add,
      rxSlice_deliver]
    exact decodeFrame_append hdecode _

end Sys2Proof.Machine
end

section
/-!
SUPPORT. The channel commands, one rule for each branch, and what every write that reaches CMD does
(42_channel_commands.md R180 to R188).
-/

namespace Sys2Proof.Machine

open State

/-! ## Reads (R180) -/

/-- What a step gives its agent is in no register. -/
theorem regValue_setOut (s : State) (o : StepOutput) (r : Reg) : regValue (s.setOut o) r = regValue s r := by
  cases r <;> rfl

/-- Settles O38: a read sets only what its agent is given, which no register shows. -/
theorem busReadChangesNothing : Obligations.BusReadChangesNothing :=
  fun s off => ⟨s.setOut (.readData (busValue off s)), rfl, rfl, rfl, fun off' => regValue_setOut s _ (regAt off')⟩

/-! ## Writes that reach CMD (R182, R187) -/

theorem exec_busWrite_cmd {off : Offset} (h : off.toNat / 4 = 3) (v : Word) (s : State) :
    exec (.busWrite off v) s = execute v s := execBusWrite_cmd h v s

/-- Every command ends by setting the result, under its own opcode (R33, R182). -/
theorem exec_command_finishes (c : Command) (s : State) :
    ∃ t code, exec c.toInstr s = .next (finish c.op.code code t) := by
  obtain ⟨op, a, b⟩ := c
  cases op
  case nop => exact ⟨_, _, rfl⟩
  case send =>
    change ∃ t code, execSend a b s = .next (finish 0x01#8 code t)
    unfold execSend
    split_ifs <;> exact ⟨_, _, rfl⟩
  case consume =>
    change ∃ t code, execConsume a b s = .next (finish 0x02#8 code t)
    unfold execConsume
    split_ifs <;> exact ⟨_, _, rfl⟩
  case resetLink => exact ⟨_, _, rfl⟩
  case kfReset => exact ⟨_, _, rfl⟩
  case kfApply =>
    change ∃ t code, execKfApply a b s = .next (finish 0x11#8 code t)
    unfold execKfApply
    split_ifs <;> exact ⟨_, _, rfl⟩

theorem cmdOp_of_decodeCommand {v : Word} {c : Command} (h : decodeCommand v = .ok c) : cmdOp v = c.op.code := by
  rw [decodeCommand_ok h, cmdOp_commandWord]

/-- `Execute(v)` ends by setting the result under the OP of `v`, legal or not (R33, R182, R187). -/
theorem execute_finishes (v : Word) (s : State) : ∃ t code, execute v s = .next (finish (cmdOp v) code t) := by
  cases hv : decodeCommand v with
  | error r => exact ⟨s, .illegal, execute_eq_illegal hv s⟩
  | ok c =>
    rw [execute_eq_exec hv, cmdOp_of_decodeCommand hv]
    exact exec_command_finishes c s

/-- Settles O47: `Execute` of a word that decodes is its command, and of any word ends by setting the result. -/
theorem cmdWriteRunsItsCommand : Obligations.CmdWriteRunsItsCommand := by
  intro s off v h
  rw [exec_busWrite_cmd h]
  obtain ⟨t, code, ht⟩ := execute_finishes v s
  exact ⟨fun c hc => execute_eq_exec hc s, finish (cmdOp v) code t, ht, toNat_cmdOp v, rfl⟩

/-- A word with RSV not 0 or an OP outside the map is no command (R106, R107). -/
theorem decodeCommand_eq_error {v : Word}
    (h : v.toNat / 0x1000000 ≠ 0 ∨ v.toNat % 0x100 ∉ [0x00, 0x01, 0x02, 0x03, 0x10, 0x11]) :
    ∃ r, decodeCommand v = .error r := by
  by_cases hr : cmdRsv v = 0x00#8
  · have hop := h.resolve_left (not_not_intro ((cmdRsv_eq_zero_iff v).mp hr))
    refine ⟨_, decodeCommand_unassignedOpcode hr fun op ho => hop ?_⟩
    rw [(cmdOp_eq_code_iff v op).mp ho]
    cases op <;> decide
  · exact ⟨_, decodeCommand_reservedBits hr⟩

theorem cmdOp_eq_setWidth (v : Word) : cmdOp v = v.setWidth 8 := by
  rw [← BitVec.toNat_inj, toNat_cmdOp, BitVec.toNat_setWidth]

/-- After a command CMD reads its OP and its outcome code (R39). -/
theorem busValue_cmd_finish (s : State) (op : Byte) (code : ResultCode) :
    (busValue 0x00C#12 (s.finish op code)).toNat = op.toNat + 2 ^ 8 * code.code.toNat := by
  rw [busValue_cmd, finish_result, toNat_cmdValue]

/-- Settles O48: the word decodes to no command, and R187 then sets the result and nothing else. -/
theorem illegalCommandChangesOnlyResult : Obligations.IllegalCommandChangesOnlyResult := by
  intro s off v h hv
  obtain ⟨r, hr⟩ := decodeCommand_eq_error hv
  refine ⟨s.finish (cmdOp v) .illegal, ?_, ?_, rfl, ?_⟩
  · rw [exec_busWrite_cmd h, execute_eq_illegal hr]
    rfl
  · rw [finish_result, cmdOp_eq_setWidth]
  · rw [busValue_cmd_finish, toNat_cmdOp, Nat.add_comm]
    rfl

/-! ## NOP (R183) -/

/-- Settles O49: NOP is the end of every command and no more, and CMD reads opcode 0 with code 0. -/
theorem nopOnlySetsResult : Obligations.NopOnlySetsResult :=
  fun s _ _ => ⟨s.finish 0x00#8 .ok, rfl, BitVec.eq_of_toNat_eq (busValue_cmd_finish s _ _), rfl⟩

/-! ## SEND (R184) -/

theorem exec_send_busy {s : State} (hp : s.txPending = true) (ty len : Byte) :
    exec (.send ty len) s = .next ((s.raise .busy).finish 0x01#8 .busy) := if_pos hp

theorem exec_send_rejected {s : State} (hp : s.txPending = false) (ty : Byte) {len : Byte}
    (hl : s.build.cap < 6 + len.toNat) : exec (.send ty len) s = .next (s.finish 0x01#8 .reject) := by
  change execSend ty len s = _
  rw [execSend, if_neg (Bool.eq_false_iff.mp hp), if_pos hl]

/-- The bytes of a loaded frame are read back from the start of `tx_buffer`. -/
theorem map_txByte_loadTx (s : State) (frame : List Byte) :
    (List.range frame.length).map (s.loadTx frame).txByte = frame := by
  apply List.ext_getElem (by simp)
  intro j _ hj
  simp [txByte_loadTx, hj]

/-- The end of a loaded frame that a cursor can hold. -/
theorem toNat_loadTx_expectedLength (s : State) {frame : List Byte} (h : frame.length < 512) :
    (s.loadTx frame).tx.expectedLength.toNat = frame.length :=
  (BitVec.toNat_ofNat _ _).trans (Nat.mod_eq_of_lt h)

/-- Settles O50: BUSY is checked before LENGTH, and an accepted SEND loads a frame of `6 + L` bytes. -/
theorem sendIsBusyRejectedOrLoadsTheFrame : Obligations.SendIsBusyRejectedOrLoadsTheFrame := by
  intro s ty len _
  refine ⟨fun hp => exec_send_busy (decide_eq_true hp) ty len,
    fun hp hl => exec_send_rejected (decide_eq_false hp) ty hl, fun hp hl => ?_⟩
  have hlen := len.isLt
  have hframe : (encodeFrame s.build.mark ty (s.stageSlice len.toNat)).length = 6 + len.toNat := by
    rw [length_encodeFrame, length_stageSlice]
  refine ⟨_, exec_send_accepted (decide_eq_false hp) hl, rfl, ?_, ?_, fun k hk => ?_, rfl⟩
  · rw [finish_tx, toNat_loadTx_expectedLength s (by omega), hframe]
  · rw [← hframe]
    exact map_txByte_loadTx s _
  · exact (txByte_loadTx s _ k).trans (if_neg (by omega))

/-! ## CONSUME (R185) -/

theorem exec_consume_nodata {s : State} (h : s.rx.dataReady = false) (a b : Byte) :
    exec (.consume a b) s = .next (s.finish 0x02#8 .nodata) := if_neg (Bool.eq_false_iff.mp h)

/-- The cells `rx_buffer` does not have are as before in `snap`. -/
theorem snapByte_consume_of_ge (s : State) {j : Nat} (hj : s.build.cap ≤ j) : s.consume.snapByte j = s.snapByte j :=
  (snapByte_takeSnapshot s j).trans (if_neg (Nat.not_lt.mpr hj))

/-- Settles O51: a held frame is copied with the whole of `rx_buffer`; without one only the result is set. -/
theorem consumeCopiesAndClears : Obligations.ConsumeCopiesAndClears :=
  fun s a b => ⟨fun hd => ⟨s.consume, exec_consume_held hd a b, fun _ => s.snapByte_consume,
    fun _ => snapByte_consume_of_ge s, rfl⟩, fun hd => exec_consume_nodata hd a b⟩

/-! ## RESET_LINK (R186) -/

/-- The state RESET_LINK leaves (`exec_resetLink`). -/
def State.linkReset (s : State) : State :=
  ((s.restartRx.setDataReady false).setTx { s.tx with index := 0#9, expectedLength := 0#9 }).finish 0x03#8 .ok

theorem exec_resetLink (s : State) (a b : Byte) : exec (.resetLink a b) s = .next s.linkReset := rfl

/-- A cursor at its end leaves nothing to send (R25). -/
theorem linkReset_txPending (s : State) : s.linkReset.txPending = false :=
  decide_eq_false (BitVec.lt_irrefl (0#9 : Cursor))

theorem busValue_rxcur_linkReset (s : State) : busValue 0x010#12 s.linkReset = 0x00040000#32 :=
  BitVec.eq_of_toNat_eq (toNat_cursorValue 0#9 4#9)

theorem busValue_txcur_linkReset (s : State) : busValue 0x014#12 s.linkReset = 0x00000000#32 :=
  BitVec.eq_of_toNat_eq (toNat_cursorValue 0#9 0#9)

/-- Settles O52: the cursors are at rest and read so, and nothing else is changed. -/
theorem resetLinkRestoresCursors : Obligations.ResetLinkRestoresCursors :=
  fun s a b => ⟨s.linkReset, exec_resetLink s a b, rfl, rfl, linkReset_txPending s, busValue_rxcur_linkReset s,
    busValue_txcur_linkReset s, rfl⟩

end Sys2Proof.Machine
end

section
/-!
SUPPORT. The Kalman core: the fixed-point primitives as integer arithmetic, and the two commands, with every primitive a
cycle computes and the conditions it leaves (43_kalman.md R211 to R219).
-/

namespace Sys2Proof.Machine

open State

/-! ## The primitives (R211 to R214) -/

/-- `wrap32` keeps an integer modulo 2^32 (R8). -/
theorem ofExact_val_congr (n : Int) : (2 : Int) ^ 32 ∣ (Fx.ofExact n).val.toInt - n := by
  change (2 : Int) ^ 32 ∣ (BitVec.ofInt 32 n).toInt - n
  rw [BitVec.toInt_ofInt]
  exact Int.dvd_bmod_sub_self

/-- OVF is not raised exactly in the range of an `s32` (R214). -/
theorem ofExact_ovf_eq_false_iff (n : Int) :
    (Fx.ofExact n).ovf = false ↔ -(2 : Int) ^ 31 ≤ n ∧ n ≤ 2 ^ 31 - 1 := by
  change decide (n < -2147483648 ∨ 2147483647 < n) = false ↔ _
  rw [decide_eq_false_iff_not]
  omega

/-- Settles O53: both are an exact integer result, wrapped. -/
theorem fixedAddAndSubWrap : Obligations.FixedAddAndSubWrap :=
  fun _ _ => ⟨ofExact_val_congr _, ofExact_ovf_eq_false_iff _, ofExact_val_congr _, ofExact_ovf_eq_false_iff _,
    rfl, rfl⟩

/-- Settles O54: `q` is the floored quotient by the positive 2^F. -/
theorem fixedMulFloors : Obligations.FixedMulFloors := by
  intro F a b
  have hF : (0 : Int) < 2 ^ F := by positivity
  refine ⟨(a.toInt * b.toInt).fdiv (2 ^ F), ?_, Int.lt_fdiv_add_one_mul_self _ hF, ofExact_val_congr _,
    ofExact_ovf_eq_false_iff _, rfl⟩
  rw [mul_comm]
  exact Int.mul_fdiv_self_le hF

theorem fdiv_zero (F : Nat) (a : Word) : fdiv F a 0#32 = ⟨0#32, false, true⟩ := if_pos rfl

theorem fdiv_of_ne_zero (F : Nat) (a : Word) {b : Word} (hb : b ≠ 0#32) :
    fdiv F a b = Fx.ofExact ((a.toInt * 2 ^ F).tdiv b.toInt) := if_neg hb

/-- The remainder of a truncated division of `a n`, with `n` positive, has the sign of `a`. -/
theorem tmod_mul_pos_mul_nonneg (a b : Int) {n : Int} (hn : 0 < n) : 0 ≤ (a * n).tmod b * a := by
  rcases le_total 0 a with ha | ha
  · exact mul_nonneg (Int.tmod_nonneg b (mul_nonneg ha hn.le)) ha
  · have h : 0 ≤ (-a * n).tmod b := Int.tmod_nonneg b (mul_nonneg (neg_nonneg.mpr ha) hn.le)
    rw [neg_mul, Int.neg_tmod] at h
    exact mul_nonneg_of_nonpos_of_nonpos (neg_nonneg.mp h) ha

/-- Settles O55: quotient and remainder are those of the division truncated toward zero. -/
theorem fixedDivTruncates : Obligations.FixedDivTruncates := by
  intro F a b
  refine ⟨fun hb => hb ▸ fdiv_zero F a, fun hb => ?_⟩
  have hb' : b.toInt ≠ 0 := fun h => hb (BitVec.toInt_inj.mp h)
  rw [fdiv_of_ne_zero F a hb]
  refine ⟨_, _, (Int.tdiv_mul_add_tmod (a.toInt * 2 ^ F) b.toInt).symm, ?_, tmod_mul_pos_mul_nonneg _ _ (by positivity),
    ofExact_val_congr _, ofExact_ovf_eq_false_iff _, rfl⟩
  rw [Int.natAbs_tmod]
  exact Nat.mod_lt _ (Int.natAbs_pos.mpr hb')

/-- Wrapped addition is that of machine words. -/
@[simp] theorem fadd_val (a b : Word) : (fadd a b).val = a + b := by
  change BitVec.ofInt 32 (a.toInt + b.toInt) = a + b
  rw [BitVec.ofInt_add, BitVec.ofInt_toInt, BitVec.ofInt_toInt]

/-- Wrapped subtraction is that of machine words. -/
@[simp] theorem fsub_val (a b : Word) : (fsub a b).val = a - b := by
  change BitVec.ofInt 32 (a.toInt - b.toInt) = a - b
  rw [Int.sub_eq_add_neg, BitVec.ofInt_add, BitVec.ofInt_neg, BitVec.ofInt_toInt, BitVec.ofInt_toInt,
    BitVec.sub_eq_add_neg]

@[simp] theorem fmul_zero_left_val (F : Nat) (b : Word) : (fmul F 0#32 b).val = 0#32 := by
  change BitVec.ofInt 32 (((0#32).toInt * b.toInt).fdiv (2 ^ F)) = 0#32
  rw [BitVec.toInt_zero, zero_mul, Int.zero_fdiv]
  rfl

@[simp] theorem Fx.ofWord_val (w : Word) : (Fx.ofWord w).val = w := rfl
@[simp] theorem Fx.add_val (a b : Fx) : (Fx.add a b).val = (fadd a.val b.val).val := rfl
@[simp] theorem Fx.sub_val (a b : Fx) : (Fx.sub a b).val = (fsub a.val b.val).val := rfl
@[simp] theorem Fx.mul_val (F : Nat) (a b : Fx) : (Fx.mul F a b).val = (fmul F a.val b.val).val := rfl
@[simp] theorem Fx.div_val (F : Nat) (a b : Fx) : (Fx.div F a b).val = (fdiv F a.val b.val).val := rfl

/-! ## KF_RESET (R217) -/

/-- The state KF_RESET leaves (`exec_kfReset`). -/
def State.kfReset (s : State) : State := (s.setKf (Kalman.initial s.build)).finish 0x10#8 .ok

theorem exec_kfReset (s : State) (a b : Byte) : exec (.kfReset a b) s = .next s.kfReset := rfl

/-- Power-on reset sets the same Kalman words (R47). -/
theorem afterPowerOn_kf (bd : Build) (n : Nat) (is : List Input) : (afterPowerOn bd n is).kf = Kalman.initial bd := rfl

/-- Settles O56: KF_RESET and power-on reset both leave the initial estimate. -/
theorem kfResetRestoresTheInitialEstimate : Obligations.KfResetRestoresTheInitialEstimate :=
  fun s a b => ⟨s.kfReset, exec_kfReset s a b, rfl, fun n is => (afterPowerOn_kf s.build n is).symm, rfl⟩

/-! ## The guard of KF_APPLY (R219) -/

theorem toInt_pos_iff_ne_zero_and_msb (w : Word) : 0 < w.toInt ↔ w ≠ 0#32 ∧ w.msb = false := by
  rw [BitVec.msb_eq_toInt, decide_eq_false_iff_not, not_lt, lt_iff_le_and_ne, and_comm, ne_comm, ne_eq, ne_eq,
    ← BitVec.toInt_inj, BitVec.toInt_zero]

theorem exec_kfApply_rejected {s : State} (h : s.kop.kdt.toInt ≤ 0) (a b : Byte) :
    exec (.kfApply a b) s = .next (s.raiseDterr.finish 0x11#8 .reject) := if_pos h

/-- The state an accepted KF_APPLY leaves (`exec_kfApply_accepted`). -/
def State.kfApplied (s : State) : State :=
  let u := kfCycle s.build s.kf s.kop
  ((s.setKf (u.words s.kop)).setKstat
    { s.kstat with ovf := s.kstat.ovf || u.ovf, divz := s.kstat.divz || u.divz }).finish 0x11#8 .ok

theorem exec_kfApply_accepted {s : State} (h : 0 < s.kop.kdt.toInt) (a b : Byte) :
    exec (.kfApply a b) s = .next s.kfApplied := if_neg (not_le.mpr h)

/-- Settles O57: a word that is 0 or has its sign bit set is not positive. -/
theorem kfApplyRejectsNonPositiveDt : Obligations.KfApplyRejectsNonPositiveDt := by
  intro s a b h
  refine exec_kfApply_rejected (not_lt.mp fun hpos => ?_) a b
  obtain ⟨hne, hmsb⟩ := (toInt_pos_iff_ne_zero_and_msb _).mp hpos
  exact h.elim hne (by simp [hmsb])

/-! ## The primitives of a cycle, stage by stage (R218)

Each stage's results and its primitives, in the rule's order. A condition of a result is one of its operands or of its
own primitive, so no primitive's condition is lost, and none comes from elsewhere. -/

/-- A condition that a word read does not raise and that a primitive adds to those of its operands (R214). -/
structure Fx.Condition (c : Fx → Bool) : Prop where
  word : ∀ w, c (Fx.ofWord w) = false
  after : ∀ r a b : Fx, c (r.after a b) = (c a || c b || c r)

section
variable {c : Fx → Bool} (hc : Fx.Condition c)
include hc

theorem Fx.Condition.add (a b : Fx) : c (Fx.add a b) = (c a || c b || c (fadd a.val b.val)) := hc.after _ a b
theorem Fx.Condition.sub (a b : Fx) : c (Fx.sub a b) = (c a || c b || c (fsub a.val b.val)) := hc.after _ a b
theorem Fx.Condition.mul (F : Nat) (a b : Fx) : c (Fx.mul F a b) = (c a || c b || c (fmul F a.val b.val)) :=
  hc.after _ a b
theorem Fx.Condition.div (F : Nat) (a b : Fx) : c (Fx.div F a b) = (c a || c b || c (fdiv F a.val b.val)) :=
  hc.after _ a b

end

theorem Fx.condition_ovf : Fx.Condition Fx.ovf := ⟨fun _ => rfl, fun _ _ _ => rfl⟩
theorem Fx.condition_divz : Fx.Condition Fx.divz := ⟨fun _ => rfl, fun _ _ _ => rfl⟩

/-- The results of "predict". -/
def KfPredicted.results (m : KfPredicted) : List Fx := [m.x0m, m.x1m, m.p0m, m.p1m, m.p2m, m.p3m]

/-- The results of "gain" and the residual. -/
def KfGain.results (g : KfGain) : List Fx := [g.k0, g.k1, g.r]

/-- The results of "update". -/
def KfUpdated.results (u : KfUpdated) : List Fx := [u.x0, u.x1, u.p0, u.p1, u.p2, u.p3]

/-- The 13 primitives of `kfPredict`. -/
def kfPredictPrimitives (bd : Build) (k : Kalman) (ops : KalmanOperands) : List Fx :=
  let v1 := fmul bd.fracBits ops.kdt k.x1
  let v2 := fmul bd.fracBits ops.kdt ops.kddz
  let t2 := fmul bd.fracBits ops.kdt k.p3
  let v3 := fadd k.p1 k.p2
  let t3 := fadd v3.val t2.val
  let v4 := fmul bd.fracBits ops.kdt t3.val
  let v5 := fadd k.p0 v4.val
  [v1, fadd k.x0 v1.val, v2, fadd k.x1 v2.val, t2, v3, t3, v4, v5, fadd v5.val bd.kfQ, fadd k.p1 t2.val,
    fadd k.p2 t2.val, fadd k.p3 bd.kfQ]

/-- The 4 primitives of `kfGain`. -/
def kfGainPrimitives (bd : Build) (m : KfPredicted) (ops : KalmanOperands) : List Fx :=
  let s := fadd m.p0m.val bd.kfR
  [s, fdiv bd.fracBits m.p0m.val s.val, fdiv bd.fracBits m.p2m.val s.val, fsub ops.kz m.x0m.val]

/-- The 12 primitives of `kfUpdate`: each product, then the sum or difference that takes it. -/
def kfUpdatePrimitives (bd : Build) (m : KfPredicted) (g : KfGain) : List Fx :=
  let product (k x : Fx) := fmul bd.fracBits k.val x.val
  [product g.k0 g.r, fadd m.x0m.val (product g.k0 g.r).val, product g.k1 g.r, fadd m.x1m.val (product g.k1 g.r).val,
    product g.k0 m.p0m, fsub m.p0m.val (product g.k0 m.p0m).val, product g.k0 m.p1m,
    fsub m.p1m.val (product g.k0 m.p1m).val, product g.k1 m.p0m, fsub m.p2m.val (product g.k1 m.p0m).val,
    product g.k1 m.p1m, fsub m.p3m.val (product g.k1 m.p1m).val]

/-- The 29 primitives of `kfCycle`. -/
def kfPrimitives (bd : Build) (k : Kalman) (ops : KalmanOperands) : List Fx :=
  let m := kfPredict bd k ops
  kfPredictPrimitives bd k ops ++ kfGainPrimitives bd m ops ++ kfUpdatePrimitives bd m (kfGain bd m ops)

section
variable {c : Fx → Bool} (hc : Fx.Condition c)
include hc

/-- The predicted values carry the conditions of the primitives that computed them. -/
theorem any_kfPredict (bd : Build) (k : Kalman) (ops : KalmanOperands) :
    (kfPredict bd k ops).results.any c = (kfPredictPrimitives bd k ops).any c := by
  simp only [KfPredicted.results, kfPredict, kfPredictPrimitives, hc.add, hc.mul, hc.word,
    Fx.add_val, Fx.mul_val, Fx.ofWord_val, List.any_cons, List.any_nil, Bool.false_or, Bool.or_false]
  ac_rfl

/-- The gain and the residual carry the conditions of their operands among the predicted values, and those of their own
primitives. -/
theorem any_kfGain (bd : Build) (m : KfPredicted) (ops : KalmanOperands) :
    (m.results.any c || (kfGain bd m ops).results.any c) =
      (m.results.any c || (kfGainPrimitives bd m ops).any c) := by
  simp only [KfPredicted.results, KfGain.results, kfGain, kfGainPrimitives, hc.add, hc.sub, hc.div, hc.word,
    Fx.add_val, Fx.ofWord_val, List.any_cons, List.any_nil, Bool.false_or, Bool.or_false]
  ac_rfl

/-- Every predicted value and every part of the gain is an operand of the update. -/
theorem any_kfUpdate (bd : Build) (m : KfPredicted) (g : KfGain) :
    (kfUpdate bd m g).results.any c =
      (m.results.any c || g.results.any c || (kfUpdatePrimitives bd m g).any c) := by
  simp only [KfPredicted.results, KfGain.results, KfUpdated.results, kfUpdate, kfUpdatePrimitives, hc.add, hc.sub,
    hc.mul, Fx.mul_val, List.any_cons, List.any_nil, Bool.or_false]
  ac_rfl

/-- A condition is among the results of a cycle exactly when some primitive raised it (log 12). -/
theorem any_kfCycle (bd : Build) (k : Kalman) (ops : KalmanOperands) :
    (kfCycle bd k ops).results.any c = (kfPrimitives bd k ops).any c := by
  rw [kfCycle, any_kfUpdate hc, any_kfGain hc, any_kfPredict hc, kfPrimitives, List.any_append, List.any_append]

end

theorem KfUpdated.ovf_eq_any (u : KfUpdated) : u.ovf = u.results.any Fx.ovf := by
  simp [KfUpdated.ovf, KfUpdated.results, Bool.or_assoc]

theorem KfUpdated.divz_eq_any (u : KfUpdated) : u.divz = u.results.any Fx.divz := by
  simp [KfUpdated.divz, KfUpdated.results, Bool.or_assoc]

theorem kfCycle_ovf (bd : Build) (k : Kalman) (ops : KalmanOperands) :
    (kfCycle bd k ops).ovf = (kfPrimitives bd k ops).any Fx.ovf :=
  (KfUpdated.ovf_eq_any _).trans (any_kfCycle Fx.condition_ovf bd k ops)

theorem kfCycle_divz (bd : Build) (k : Kalman) (ops : KalmanOperands) :
    (kfCycle bd k ops).divz = (kfPrimitives bd k ops).any Fx.divz :=
  (KfUpdated.divz_eq_any _).trans (any_kfCycle Fx.condition_divz bd k ops)

/-- What an accepted KF_APPLY changes, its conditions those of the primitives (R218, R258). -/
theorem kfApplied_eq (s : State) :
    s.kfApplied = { s with
      kf := (kfCycle s.build s.kf s.kop).words s.kop
      kstat := { s.kstat with
        ovf := s.kstat.ovf || (kfPrimitives s.build s.kf s.kop).any Fx.ovf
        divz := s.kstat.divz || (kfPrimitives s.build s.kf s.kop).any Fx.divz }
      result := ⟨0x11#8, .ok⟩
      out := .none } := by
  rw [State.kfApplied, kfCycle_ovf, kfCycle_divz]
  rfl

/-- Settles O58: the results' values are those of the rule's primitives, and so are the conditions (`any_kfCycle`). -/
theorem kfApplyRunsItsPrimitives : Obligations.KfApplyRunsItsPrimitives := by
  intro s a b hne hmsb
  rw [exec_kfApply_accepted ((toInt_pos_iff_ne_zero_and_msb _).mpr ⟨hne, hmsb⟩), kfApplied_eq]
  simp only [kfPrimitives, kfPredictPrimitives, kfGainPrimitives, kfUpdatePrimitives, KfUpdated.words, kfCycle,
    kfPredict, kfGain, kfUpdate, Fx.add_val, Fx.sub_val, Fx.mul_val, Fx.div_val, Fx.ofWord_val,
    List.cons_append, List.nil_append]

/-! ## A zero divisor (R218) -/

/-- With a zero divisor both gains are 0, and DIVZ is raised (R213). -/
theorem kfGain_of_zero_divisor {bd : Build} {m : KfPredicted} (h : m.p0m.val + bd.kfR = 0#32) (ops : KalmanOperands) :
    (kfGain bd m ops).k0.val = 0#32 ∧ (kfGain bd m ops).k1.val = 0#32 ∧ (kfGain bd m ops).k0.divz = true := by
  have hs : (Fx.add m.p0m (Fx.ofWord bd.kfR)).val = 0#32 := (fadd_val _ _).trans h
  simp only [kfGain, Fx.div, hs, fdiv_zero, Fx.after, Bool.or_true, and_self]

/-- Gains of 0 add nothing to the predicted values. -/
theorem kfUpdate_words_of_zero_gain (bd : Build) (m : KfPredicted) {g : KfGain} (h0 : g.k0.val = 0#32)
    (h1 : g.k1.val = 0#32) (ops : KalmanOperands) :
    (kfUpdate bd m g).words ops =
      ⟨m.x0m.val, m.x1m.val, m.p0m.val, m.p1m.val, m.p2m.val, m.p3m.val, ops.kz, m.x1m.val⟩ := by
  simp [KfUpdated.words, kfUpdate, h0, h1]

/-- A DIVZ of the gain stays with the results. -/
theorem kfUpdate_divz_of_gain (bd : Build) (m : KfPredicted) {g : KfGain} (h : g.k0.divz = true) :
    (kfUpdate bd m g).divz = true := by
  rw [KfUpdated.divz_eq_any, any_kfUpdate Fx.condition_divz]
  simp [KfGain.results, h]

/-- Settles O59: the gains are 0, so the update adds nothing, and DIVZ is that of the first gain. -/
theorem kfApplyWithZeroDivisorKeepsThePrediction : Obligations.KfApplyWithZeroDivisorKeepsThePrediction := by
  intro s a b hdt m hm
  obtain ⟨h0, h1, hz⟩ := kfGain_of_zero_divisor hm s.kop
  refine ⟨s.kfApplied, exec_kfApply_accepted hdt a b, rfl, ?_, kfUpdate_words_of_zero_gain s.build m h0 h1 s.kop⟩
  exact Bool.or_eq_true_iff.mpr (.inr (kfUpdate_divz_of_gain s.build m hz))

end Sys2Proof.Machine
end

section
/-!
SUPPORT. What no operation does: stop the block, clear a sticky bit by the way, raise two conditions in one exchange, or
take an interrupt source away without its cause (60_exceptions.md R250, R256, R259, R260).
-/

namespace Sys2Proof.Machine

open State

/-! ## The block goes on (R250) -/

/-- Every instruction has a next state. -/
theorem exec_next (i : Instr) (s : State) : ∃ t, exec i s = .next t := by
  have hcommand (c : Command) : ∃ t, exec c.toInstr s = .next t :=
    let ⟨_, _, h⟩ := exec_command_finishes c s
    ⟨_, h⟩
  cases i
  case busRead off => exact ⟨_, rfl⟩
  case busWrite off v =>
    by_cases hc : off.toNat / 4 = 3
    · obtain ⟨t, code, h⟩ := execute_finishes v s
      exact ⟨_, (exec_busWrite_cmd hc v s).trans h⟩
    · exact ⟨_, execBusWrite_plain hc v s⟩
  case linkByte b =>
    cases hen : s.ctrl.linkEn with
    | false => exact ⟨_, exec_linkByte_disabled hen b⟩
    | true => exact ⟨_, exec_linkByte_enabled hen b⟩
  case nop a b => exact hcommand ⟨.nop, a, b⟩
  case send ty len => exact hcommand ⟨.send, ty, len⟩
  case consume a b => exact hcommand ⟨.consume, a, b⟩
  case resetLink a b => exact hcommand ⟨.resetLink, a, b⟩
  case kfReset a b => exact hcommand ⟨.kfReset, a, b⟩
  case kfApply a b => exact hcommand ⟨.kfApply, a, b⟩

/-- Every step of a block with a legal build has a next state. -/
theorem step_next {s : State} (hb : s.build.legal = true) : ∃ t, step s = .next t := by
  unfold step
  rw [if_pos hb]
  split
  · exact ⟨_, rfl⟩
  · exact ⟨_, rfl⟩
  · exact exec_next _ _

@[simp] theorem writeReg_pending (r : Reg) (v : Word) (s : State) : (writeReg r v s).pending = s.pending := by
  rw [writeReg_eq]; rfl

/-- The outcome of an enabled exchange, under its name. -/
theorem setOut_receive_advanceTx (s : State) (b : Byte) :
    (s.advanceTx.receive b).setOut (.sent s.txOut) = s.exchange b := by
  rw [exchange, receive_advanceTx]

@[simp] theorem State.exchange_pending (s : State) (b : Byte) : (s.exchange b).pending = s.pending := by
  rw [exchange_frame]; rfl
@[simp] theorem State.exchange_kstat (s : State) (b : Byte) : (s.exchange b).kstat = s.kstat := by
  rw [exchange_frame]; rfl

/-- No instruction touches the build (R5) or the inputs still to come. -/
theorem Executed.build_pending {i : Instr} {s t : State} (he : Executed i s t) :
    t.build = s.build ∧ t.pending = s.pending := by
  cases he
  case exchanged b _ _ e =>
    rw [e, setOut_receive_advanceTx]
    exact ⟨exchange_build s b, exchange_pending s b⟩
  all_goals
    next e =>
    simp [e]

/-- No step touches the build (R5). -/
theorem step_build {s t : State} (h : step s = .next t) : t.build = s.build := by
  rcases step_cases h with rfl | ⟨rest, rfl⟩ | ⟨a, rest, he⟩
  · rfl
  · rfl
  · exact (exec_cases he).build_pending.1

/-- Settles O9: every branch of `exec` answers a next state, and none reaches the build or the pending inputs. -/
theorem blockNeverStops : Obligations.BlockNeverStops := by
  refine ⟨fun i s => ?_, fun s hb => ?_⟩
  · obtain ⟨t, h⟩ := exec_next i s
    exact ⟨t, h, (exec_cases h).build_pending⟩
  · obtain ⟨t, h⟩ := step_next hb
    exact ⟨t, h, step_build h⟩

/-! ## Sticky bits are raised one at a time (R256, R257) -/

namespace State

theorem StickyKept.of_eq {s t : State} (hf : t.fstat = s.fstat) (hk : t.kstat = s.kstat) : s.StickyKept t := by
  simp [StickyKept, hf, hk]

/-- Raising a framer bit clears none. -/
theorem StickyKept.of_raise {s t : State} {f : FramerFlag} (hf : t.fstat = s.fstat.raise f) (hk : t.kstat = s.kstat) :
    s.StickyKept t := by
  rw [FramerStatus.raise_bits] at hf
  simp +contextual [StickyKept, hf, hk]

/-- The receive side raises one framer bit at most, and OVR only in arming a frame (R155, R256). -/
theorem Received.fstat_cases {s t : State} {b : Byte} (hr : Received s b t) :
    t.fstat = s.fstat ∨ ∃ f, t.fstat = s.fstat.raise f ∧ (f = .ovr → t.rx.index = 2#9) := by
  have hlost := hr.overrun_of_lost
  cases hr
  case overrun _ _ hd e => exact .inr ⟨.ovr, by rw [e]; rfl, fun _ => (hlost hd (by rw [e]; rfl)).2⟩
  case badMark e => exact .inr ⟨.ferr, by rw [e]; rfl, nofun⟩
  case tooLong e => exact .inr ⟨.ferr, by rw [e]; rfl, nofun⟩
  case invalid e => exact .inr ⟨.cerr, by rw [e]; rfl, nofun⟩
  all_goals
    next e =>
    subst e
    exact .inl rfl

theorem exchange_stickyKept (s : State) (b : Byte) : s.StickyKept (s.exchange b) := by
  rcases (receive_cases s b).fstat_cases with hf | ⟨f, hf, -⟩
  · exact .of_eq ((exchange_fstat s b).trans hf) (exchange_kstat s b)
  · exact .of_raise ((exchange_fstat s b).trans hf) (exchange_kstat s b)

end State

/-- Of FERR, CERR and OVR a `raise` sets one at most. -/
theorem FramerStatus.raise_count_le_one (f : FramerFlag) (st : FramerStatus) :
    (!st.ferr && (st.raise f).ferr).toNat + (!st.cerr && (st.raise f).cerr).toNat +
      (!st.ovr && (st.raise f).ovr).toNat ≤ 1 := by
  cases f <;> simp [FramerStatus.raise, Bool.toNat_le]

theorem FramerStatus.eq_ovr_of_raise {f : FramerFlag} {st : FramerStatus} (h0 : st.ovr = false)
    (h1 : (st.raise f).ovr = true) : f = .ovr := by
  simpa [FramerStatus.raise_bits, h0] using h1

/-- Settles O24: a disabled exchange raises nothing, and the receive side of an enabled one raises one bit at most. -/
theorem oneConditionPerExchange : Obligations.OneConditionPerExchange := by
  intro s t b h
  rcases exec_linkByte_cases h with rfl | rfl
  · exact ⟨by simp, fun h0 h1 => Bool.noConfusion (h0.symm.trans h1), .of_eq rfl rfl⟩
  · rw [exchange_fstat, exchange_rx]
    rcases (receive_cases s b).fstat_cases with hf | ⟨f, hf, harmed⟩
    · rw [hf]
      exact ⟨by simp, fun h0 h1 => Bool.noConfusion (h0.symm.trans h1), exchange_stickyKept s b⟩
    · rw [hf]
      exact ⟨FramerStatus.raise_count_le_one f s.fstat, fun h0 h1 => harmed (FramerStatus.eq_ovr_of_raise h0 h1),
        exchange_stickyKept s b⟩

/-! ## Sticky bits are cleared by a write of 1 only (R259) -/

/-- A plain write leaves the sticky bits as they were, but for those of the register it reaches (R38, R43). -/
theorem writeReg_sticky_cases (r : Reg) (v : Word) (s : State) :
    ((writeReg r v s).fstat = s.fstat ∧ (writeReg r v s).kstat = s.kstat) ∨
      (r = .fstat ∧ writeReg r v s = s.setFstat (s.fstat.clear v)) ∨
      (r = .kstat ∧ writeReg r v s = s.setKstat (s.kstat.clear v)) := by
  cases r
  case fstat => exact .inr (.inl ⟨rfl, rfl⟩)
  case kstat => exact .inr (.inr ⟨rfl, rfl⟩)
  case txstage i =>
    rcases Nat.lt_or_ge i s.build.pmax with hi | hi
    · rw [writeReg_txstage hi]
      exact .inl ⟨rfl, rfl⟩
    · rw [writeReg_txstage_of_ge hi]
      exact .inl ⟨rfl, rfl⟩
  all_goals exact .inl ⟨rfl, rfl⟩

/-- An instruction keeps every sticky bit, but for a write to FSTAT or to KSTAT. -/
theorem Executed.stickyKept_or_cleared {i : Instr} {s t : State} (he : Executed i s t) :
    s.StickyKept t ∨
      (∃ off v, i = .busWrite off v ∧ regAt off = .fstat ∧ t.fstat = s.fstat.clear v ∧ t.kstat = s.kstat) ∨
      ∃ off v, i = .busWrite off v ∧ regAt off = .kstat ∧ t.fstat = s.fstat ∧ t.kstat = s.kstat.clear v := by
  cases he
  case written off v hi _ e =>
    subst e
    rcases writeReg_sticky_cases (regAt off) v s with ⟨hf, hk⟩ | ⟨hr, hw⟩ | ⟨hr, hw⟩
    · exact .inl (.of_eq hf hk)
    · exact .inr (.inl ⟨off, v, hi, hr, by rw [hw]; rfl, by rw [hw]; rfl⟩)
    · exact .inr (.inr ⟨off, v, hi, hr, by rw [hw]; rfl, by rw [hw]; rfl⟩)
  case exchanged b _ _ e =>
    rw [e, setOut_receive_advanceTx]
    exact .inl (exchange_stickyKept s b)
  case sendBusy e =>
    subst e
    exact .inl (.of_raise (f := .busy) rfl rfl)
  case kfRejected e =>
    subst e
    exact .inl ⟨id, id, id, id, id, id, fun _ => rfl⟩
  case kfApplied e =>
    subst e
    exact .inl ⟨id, id, id, id, Bool.or_inl, Bool.or_inl, id⟩
  all_goals
    next e =>
    subst e
    exact .inl (.of_eq rfl rfl)

/-- A bit that is kept is not lost. -/
theorem not_lost_of_kept {p : Prop} {x y : Bool} (h : x → y) (hx : x = true) (hy : y = false) : p :=
  Bool.noConfusion (hy.symm.trans (h hx))

/-- Settles O34: a plain write to FSTAT or KSTAT is the one outcome that keeps fewer sticky bits, and a bit it clears is
written as 1. -/
theorem stickyBitsAreClearedOnlyByWritingOne : Obligations.StickyBitsAreClearedOnlyByWritingOne := by
  intro i s t h cleared
  have hone {off : Offset} {v : Word} {r : Reg} (hi : i = .busWrite off v) (hr : regAt off = r) {n : Nat} {x : Bool}
      (hx : x = true) (hy : (x && !v.getLsbD n) = false) : cleared r n :=
    ⟨off, v, hi, hr, by simpa [hx] using hy⟩
  rcases (exec_cases h).stickyKept_or_cleared with
    ⟨hferr, hcerr, hovr, hbusy, hovf, hdivz, hdterr⟩ | ⟨off, v, hi, hr, hf, hk⟩ | ⟨off, v, hi, hr, hf, hk⟩
  · exact ⟨not_lost_of_kept hferr, not_lost_of_kept hcerr, not_lost_of_kept hovr, not_lost_of_kept hbusy,
      not_lost_of_kept hovf, not_lost_of_kept hdivz, not_lost_of_kept hdterr⟩
  · rw [hf, hk]
    exact ⟨hone hi hr, hone hi hr, hone hi hr, hone hi hr, not_lost_of_kept id, not_lost_of_kept id,
      not_lost_of_kept id⟩
  · rw [hf, hk]
    exact ⟨not_lost_of_kept id, not_lost_of_kept id, not_lost_of_kept id, not_lost_of_kept id, hone hi hr, hone hi hr,
      hone hi hr⟩

/-! ## The interrupt sources (R260) -/

/-- A held frame is lost to CONSUME, to RESET_LINK, or to the arming of a new frame. -/
theorem Executed.cause_of_dataReady_lost {i : Instr} {s t : State} (he : Executed i s t) (hd : s.rx.dataReady = true)
    (ht : t.rx.dataReady = false) :
    ((∃ c : Command, c.op = .consume ∧ Runs c i) ∧ t.result.code = .ok) ∨
      (∃ c : Command, c.op = .resetLink ∧ Runs c i) ∨
      ∃ b, i = .linkByte b ∧ t.rx.index = 2#9 ∧ t.fstat.ovr = true := by
  have hmoved : t.rx ≠ s.rx := fun hkept => Bool.noConfusion (ht.symm.trans (hkept ▸ hd))
  cases he
  case consumed c hc hop _ e => exact .inl ⟨⟨c, hop, hc⟩, by rw [e]; rfl⟩
  case linkReset c hc hop _ => exact .inr (.inl ⟨c, hop, hc⟩)
  case exchanged b hi _ e =>
    rw [setOut_receive_advanceTx] at e
    subst e
    rw [exchange_rx] at ht
    obtain ⟨hovr, harmed⟩ := (receive_cases s b).overrun_of_lost hd ht
    exact .inr (.inr ⟨b, hi, by rw [exchange_rx, harmed], by rw [exchange_fstat, hovr]⟩)
  all_goals
    next e =>
    exact absurd (by simp [e]) hmoved

theorem txPending_congr {s t : State} (h : t.tx = s.tx) : t.txPending = s.txPending := by
  unfold txPending
  rw [h]

/-- A transmission begins with an accepted SEND. -/
theorem Executed.sent_of_txPending {i : Instr} {s t : State} (he : Executed i s t) (hs : s.txPending = false)
    (ht : t.txPending = true) : (∃ c : Command, c.op = .send ∧ Runs c i) ∧ t.result.code = .ok := by
  have hmoved : t.tx ≠ s.tx := fun hkept => Bool.noConfusion (hs.symm.trans ((txPending_congr hkept).symm.trans ht))
  cases he
  case sendLoaded c hc hop _ _ e => exact ⟨⟨c, hop, hc⟩, by rw [e]; rfl⟩
  case linkReset e =>
    subst e
    exact Bool.noConfusion ((linkReset_txPending s).symm.trans ht)
  case exchanged b _ _ e =>
    exact absurd (by rw [e, setOut_receive_advanceTx, exchange_tx, advanceTx_of_idle hs]) hmoved
  all_goals
    next e =>
    exact absurd (by simp [e]) hmoved

/-- Settles O37: one claim for each source, over the outcomes of an instruction. -/
theorem interruptSourcesAreClearedByTheirCauses : Obligations.InterruptSourcesAreClearedByTheirCauses :=
  fun _ _ _ h => ⟨(exec_cases h).cause_of_dataReady_lost, (exec_cases h).sent_of_txPending⟩

end Sys2Proof.Machine
end

section
/-!
SUPPORT. Decoding and encoding are inverse to each other (30_encoding.md R103 to R108): a command is its word at CMD, and
every other instruction stands for its own step.
-/

namespace Sys2Proof

/-! ## Commands -/

/-- A command is encoded as the write of its word to CMD (R104, R105). -/
theorem encode_toInstr (c : Command) :
    encode c.toInstr = .hostWrite cmdOffset (commandWord c.op.code c.a c.b) := by
  obtain ⟨op, a, b⟩ := c
  cases op <;> rfl

theorem wellFormed_toInstr (c : Command) : c.toInstr.wellFormed = true := by
  obtain ⟨op, a, b⟩ := c
  cases op <;> rfl

theorem decode_encode_toInstr (c : Command) : decode (encode c.toInstr) = c.toInstr := by
  rw [encode_toInstr, decode_commandWord]

/-- A write to CMD of a word that decodes is its command (R182). -/
theorem decode_legalWord {v : Word} {c : Command} (h : decodeCommand v = .ok c) :
    decode (.hostWrite cmdOffset v) = c.toInstr := by
  rw [decodeCommand_ok h, decode_commandWord]

/-! ## Plain writes -/

theorem legalCommandWord_of_error {v : Word} {e : CommandReject} (h : decodeCommand v = .error e) :
    legalCommandWord v = false := by
  rw [Bool.eq_false_iff, ne_eq, legalCommandWord_iff]
  rintro ⟨c, hc⟩
  cases h.symm.trans hc

/-- A BUS_WRITE is ill-formed only at 0x00C, and there only with a word that decodes (log 9). -/
theorem wellFormed_busWrite_iff (off : Offset) (v : Word) :
    (Instr.busWrite off v).wellFormed = true ↔ off ≠ cmdOffset ∨ ∃ e, decodeCommand v = .error e := by
  cases hv : decodeCommand v with
  | ok c => simp [Instr.wellFormed, (legalCommandWord_iff v).mpr ⟨c, hv⟩]
  | error e => simp [Instr.wellFormed, legalCommandWord_of_error hv]

theorem decode_encode_busWrite {off : Offset} {v : Word} (h : (Instr.busWrite off v).wellFormed = true) :
    decode (encode (.busWrite off v)) = .busWrite off v := by
  by_cases ho : off = cmdOffset
  · subst ho
    obtain hne | ⟨e, he⟩ := (wellFormed_busWrite_iff cmdOffset v).mp h
    · exact absurd rfl hne
    · exact decode_illegalWord he
  · exact decode_plainWrite ho v

/-! ## Both directions -/

/-- Settles O1: a command is read back from its word, and a well-formed BUS_WRITE does not decode as a command. -/
theorem encodedInstructionDecodesToItself : Obligations.EncodedInstructionDecodesToItself := by
  intro i hi
  cases i with
  | nop a b => exact decode_encode_toInstr ⟨.nop, a, b⟩
  | send ty len => exact decode_encode_toInstr ⟨.send, ty, len⟩
  | consume a b => exact decode_encode_toInstr ⟨.consume, a, b⟩
  | resetLink a b => exact decode_encode_toInstr ⟨.resetLink, a, b⟩
  | kfReset a b => exact decode_encode_toInstr ⟨.kfReset, a, b⟩
  | kfApply a b => exact decode_encode_toInstr ⟨.kfApply, a, b⟩
  | busRead off => rfl
  | busWrite off v => exact decode_encode_busWrite hi
  | linkByte b => rfl

/-- A write is a command at CMD when its word decodes, and a well-formed BUS_WRITE otherwise. -/
theorem decode_hostWrite_spec (off : Offset) (v : Word) :
    (decode (.hostWrite off v)).wellFormed = true ∧ encode (decode (.hostWrite off v)) = .hostWrite off v := by
  by_cases ho : off = cmdOffset
  · subst ho
    cases hv : decodeCommand v with
    | ok c =>
      rw [decode_legalWord hv, encode_toInstr, ← decodeCommand_ok hv]
      exact ⟨wellFormed_toInstr c, rfl⟩
    | error e =>
      rw [decode_illegalWord hv]
      exact ⟨(wellFormed_busWrite_iff _ v).mpr (.inr ⟨e, hv⟩), rfl⟩
  · rw [decode_plainWrite ho]
    exact ⟨(wellFormed_busWrite_iff off v).mpr (.inl ho), rfl⟩

/-- Settles O2: a read and an exchange are spelled one way, a write by whether it is a command. -/
theorem everyAgentStepIsOneInstruction : Obligations.EveryAgentStepIsOneInstruction := by
  intro a
  cases a with
  | hostRead off => exact ⟨rfl, rfl⟩
  | hostWrite off v => exact decode_hostWrite_spec off v
  | linkByte b => exact ⟨rfl, rfl⟩

end Sys2Proof
end

section
/-!
SUPPORT. One step by its oldest input (20_memory.md R76 to R79), and the state reset leaves (10_state.md R47).
-/

namespace Sys2Proof.Machine

theorem step_of_idle {s : State} (hb : s.build.legal = true) (hp : s.pending = []) : step s = .next s := by
  simp only [step, hb, hp, if_true]

theorem step_of_agent {s : State} (hb : s.build.legal = true) {a : AgentStep} {rest : List Input}
    (hp : s.pending = .agent a :: rest) : step s = exec (decode a) (s.setPending rest) := by
  simp only [step, hb, hp, if_true]

theorem step_of_powerOnReset {s : State} (hb : s.build.legal = true) {rest : List Input}
    (hp : s.pending = .powerOnReset :: rest) : step s = .next (s.setPending rest).powerOnReset := by
  simp only [step, hb, hp, if_true]

/-- Settles O6: an agent's step and the idle step of a legal build. -/
theorem stepRunsTheOldestAgentStep : Obligations.StepRunsTheOldestAgentStep :=
  fun _ hb => ⟨fun _ _ hp => step_of_agent hb hp, step_of_idle hb⟩

/-- Settles O7: the step answers the state of power-on reset, which gives each element its value and lists no byte. -/
theorem powerOnResetPutsEveryElementAtItsValue : Obligations.PowerOnResetPutsEveryElementAtItsValue :=
  fun s rest hb hp => ⟨(s.setPending rest).powerOnReset, step_of_powerOnReset hb hp, ⟨rfl, rfl, rfl⟩, ⟨rfl, rfl⟩,
    fun _ => ⟨rfl, rfl, rfl, rfl⟩, rfl, rfl, rfl, rfl, rfl, rfl, rfl, rfl⟩

/-- Settles O8: the registers are read off the one reset state, and LINK_EN is 0 there, so an exchange only gives FILL
(R152). -/
theorem registersAfterReset : Obligations.RegistersAfterReset :=
  ⟨by decide, by decide, by decide, by decide, by decide, exec_linkByte_disabled rfl⟩

end Sys2Proof.Machine
end
